-- ==== Sys2Proof/Word.lean ====
section
/-! DEFINITION. The word types of the display core (spec/00_scope.md R9, R11, R12). -/

namespace Sys2Proof

/-- A 32-bit register value, bus word or descriptor (R9: "32 bits, every register"; R101). -/
abbrev Word := BitVec 32

/-- One byte of system memory (R71: "System memory is byte-addressed"). -/
abbrev Byte := BitVec 8

/-- A 32-bit palette entry or surface pixel, held and copied whole (R38, R49, R191). -/
abbrev Color := BitVec 32

/-- A byte offset inside a bus block, or an event code: the 16-bit `OFF` field (R101). -/
abbrev Offset := BitVec 16

end Sys2Proof
end

