-- ==== Sys2Proof/Config.lean ====
section
/-! DEFINITION. The named parameters the spec leaves open (spec/00_scope.md R10, spec/92_eei_decisions.md)
and the free values of spec/93_implementation_defined.md. Each is an opaque constant: nothing in Lean can
evaluate it, so a theorem holds for every value it may take. Where R10 gives a constraint, the constant's
type admits exactly the values that meet it. -/

namespace Sys2Proof

/-- One of the four supported depths, the key of the built-in palette tables (R9, R174). -/
inductive Depth where
  /-- 1 bit per pixel. -/
  | one
  /-- 2 bits per pixel. -/
  | two
  /-- 4 bits per pixel. -/
  | four
  /-- 8 bits per pixel. -/
  | eight
deriving DecidableEq, Repr, Inhabited

/-- `VBL_MIN_NS`, the minimum sane threshold of `VBL_PERIOD`: any natural below 2000000 (R10, D9). -/
opaque Config.vblMinNs : Fin 2000000

/-- `REG_BASE`, the system address of the register block: platform wiring (R10, D2). -/
opaque Config.regBase : Nat

/-- `PAL_BASE`, the system address of the palette block: platform wiring (R10, D2). -/
opaque Config.palBase : Nat

/-- `REG_WINDOW` in words above its minimum of six words (R10: 24 to 65536 bytes, a multiple of 4). -/
opaque Config.regWindowExtraWords : Fin 16379

/-- `PAL_WINDOW` in words above its minimum of 256 words (R10: 1024 to 65536 bytes, a multiple of 4). -/
opaque Config.palWindowExtraWords : Fin 16129

/-- `REG_WINDOW`, the byte size of the register-block window: every multiple of 4 from 24 to 65536 (R10). -/
def Config.regWindow : Nat := 24 + 4 * Config.regWindowExtraWords.val

/-- `PAL_WINDOW`, the byte size of the palette-block window: every multiple of 4 from 1024 to 65536 (R10). -/
def Config.palWindow : Nat := 1024 + 4 * Config.palWindowExtraWords.val

/-- `DEFAULT_PALETTE_1`, the built-in table of depth 1, contents open (R174, D10). -/
opaque Config.defaultPalette1 : Vector Color 256

/-- `DEFAULT_PALETTE_2`, the built-in table of depth 2, contents open (R174, D10). -/
opaque Config.defaultPalette2 : Vector Color 256

/-- `DEFAULT_PALETTE_4`, the built-in table of depth 4, contents open (R174, D10). -/
opaque Config.defaultPalette4 : Vector Color 256

/-- `DEFAULT_PALETTE_8`, the built-in table of depth 8, contents open (R174, D10). -/
opaque Config.defaultPalette8 : Vector Color 256

/-- `DEFAULT_PALETTE_<depth>` (R174). -/
def Config.defaultPalette : Depth → Vector Color 256
  | .one => Config.defaultPalette1
  | .two => Config.defaultPalette2
  | .four => Config.defaultPalette4
  | .eight => Config.defaultPalette8

/-- `RESET_PALETTE_DEPTH`, which built-in table attach and device reset load: one of 1, 2, 4, 8 (R10, D11). -/
opaque Config.resetPaletteDepth : Depth

/-- `INIT_SURF_W`, the surface width before the first resize (R10, R49, D19). -/
opaque Config.initSurfW : Nat

/-- `INIT_SURF_H`, the surface height before the first resize (R10, R49, D19). -/
opaque Config.initSurfH : Nat

/-- `SysMem`, the system memory oracle: what a byte that no `MEMW` event has written reads as (R10, R71, D20). -/
opaque Config.sysMem : Nat → Byte

/-- FREE VALUE: what the surface pixel at column `x`, row `y` holds before it is first written
(spec/93_implementation_defined.md item 10; R49, D19). -/
opaque Config.initPixel (x y : Nat) : Color

end Sys2Proof
end

