-- ==== Sys2Proof/Syntax.lean ====
section
/-! DEFINITION. The events of the core: what a descriptor and its operands are, and one constructor of
`Instr` for each row of spec/opcode_table.json (spec/30_encoding.md R100 to R108, R113). -/

namespace Sys2Proof

/-- One event as it is delivered to the core: a 32-bit descriptor and the operands the event carries
(R100, R106). An operand that an event does not use is ignored. The bytes of a `MEMW` are a non-empty
list (R106), so they are held as a first byte and the rest. -/
structure Event where
  /-- The descriptor word (R101). -/
  desc : Word
  /-- The 32 bits of write data of a bus write (R106). -/
  data : Word := 0
  /-- The address of a `MEMW` (R106). -/
  addr : Nat := 0
  /-- The first byte of a `MEMW` (R106). -/
  byte0 : Byte := 0
  /-- The bytes of a `MEMW` after the first (R106). -/
  bytes : List Byte := []
  /-- The new time of an `ADVANCE`, in nanoseconds (R106). -/
  time : Nat := 0
deriving DecidableEq, Repr

/-- The four scanline decoder routines (R113): the value of the latch's `act.decode` (R39). -/
inductive Routine where
  /-- `DECODE_1` (R192). -/
  | decode1
  /-- `DECODE_2` (R193). -/
  | decode2
  /-- `DECODE_4` (R194). -/
  | decode4
  /-- `DECODE_8` (R195). -/
  | decode8
deriving DecidableEq, Repr

/-- The rows of the opcode table, with the operands each one carries. -/
inductive Instr where
  /-- `RD_VBL_ACK` (R130). -/
  | rdVblAck
  /-- `WR_VBL_ACK` (R131). -/
  | wrVblAck (data : Word)
  /-- `RD_VBL_PERIOD` (R132). -/
  | rdVblPeriod
  /-- `WR_VBL_PERIOD` (R133). -/
  | wrVblPeriod (data : Word)
  /-- `RD_DEPTH` (R134). -/
  | rdDepth
  /-- `WR_DEPTH` (R135). -/
  | wrDepth (data : Word)
  /-- `RD_WIDTH` (R136). -/
  | rdWidth
  /-- `WR_WIDTH` (R137). -/
  | wrWidth (data : Word)
  /-- `RD_HEIGHT` (R138). -/
  | rdHeight
  /-- `WR_HEIGHT` (R139). -/
  | wrHeight (data : Word)
  /-- `RD_VADDR` (R140). -/
  | rdVaddr
  /-- `WR_VADDR` (R141). -/
  | wrVaddr (data : Word)
  /-- `RD_REG_OOR` (R143). -/
  | rdRegOor (off : Offset)
  /-- `WR_REG_OOR` (R144). -/
  | wrRegOor (off : Offset) (data : Word)
  /-- `RD_REG_MISALIGNED` (R145). -/
  | rdRegMisaligned (off : Offset)
  /-- `WR_REG_MISALIGNED` (R146). -/
  | wrRegMisaligned (off : Offset) (data : Word)
  /-- `RD_REG_BADSIZE` (R147): `sz` is the descriptor's `SZ` field. -/
  | rdRegBadsize (sz : BitVec 2) (off : Offset)
  /-- `WR_REG_BADSIZE` (R148). -/
  | wrRegBadsize (sz : BitVec 2) (off : Offset) (data : Word)
  /-- `PAL_READ` (R170): `ix` is the palette index `OFF / 4`. -/
  | palRead (ix : BitVec 8)
  /-- `PAL_WRITE` (R172). -/
  | palWrite (ix : BitVec 8) (data : Word)
  /-- `PAL_READ_OOR` (R171). -/
  | palReadOor (off : Offset)
  /-- `PAL_WRITE_OOR` (R175). -/
  | palWriteOor (off : Offset) (data : Word)
  /-- `PAL_READ_MISALIGNED` (R173). -/
  | palReadMisaligned (off : Offset)
  /-- `PAL_WRITE_MISALIGNED` (R176). -/
  | palWriteMisaligned (off : Offset) (data : Word)
  /-- `PAL_READ_BADSIZE` (R177). -/
  | palReadBadsize (sz : BitVec 2) (off : Offset)
  /-- `PAL_WRITE_BADSIZE` (R178). -/
  | palWriteBadsize (sz : BitVec 2) (off : Offset) (data : Word)
  /-- `REDRAW` (R223). -/
  | redraw
  /-- `FIRE` (R260). -/
  | fire
  /-- `RESET` (R320). -/
  | reset
  /-- `MEMW` (R220): the bytes `b :: bs` go to `addr`, `addr + 1`, and so on. -/
  | memw (addr : Nat) (b : Byte) (bs : List Byte)
  /-- `ADVANCE` (R263). -/
  | advance (t : Nat)
  /-- `REFUSE` (R109): a reserved descriptor. -/
  | refuse (desc : Word)
  /-- `DECODE_1` (R192): scanline start `a`, row `y`, width `w`. -/
  | decode1 (a y w : Nat)
  /-- `DECODE_2` (R193). -/
  | decode2 (a y w : Nat)
  /-- `DECODE_4` (R194). -/
  | decode4 (a y w : Nat)
  /-- `DECODE_8` (R195). -/
  | decode8 (a y w : Nat)
deriving DecidableEq, Repr

end Sys2Proof
end

