-- ==== Sys2Proof/Decode.lean ====
section
/-! DEFINITION. The descriptor's fields, the total decoder, the decoder-dispatch table, the encoder and the
opcode map of spec/30_encoding.md (R100 to R113). -/

namespace Sys2Proof

/-- `CLS = desc[31:30]` (R102). -/
def descCls (d : Word) : BitVec 2 := d.extractLsb' 30 2

/-- `W = desc[29]` (R102). -/
def descW (d : Word) : BitVec 1 := d.extractLsb' 29 1

/-- `SZ = desc[28:27]` (R102). -/
def descSz (d : Word) : BitVec 2 := d.extractLsb' 27 2

/-- `RSV = desc[26:16]` (R102). -/
def descRsv (d : Word) : BitVec 11 := d.extractLsb' 16 11

/-- `OFF = desc[15:0]` (R102). -/
def descOff (d : Word) : Offset := d.extractLsb' 0 16

/-- The width in bytes of a bus access, `2^SZ` (R102). -/
def accessBytes (sz : BitVec 2) : Nat := 2 ^ sz.toNat

/-- A descriptor with its reserved field 0 (R101). -/
def mkDesc (cls : BitVec 2) (w : BitVec 1) (sz : BitVec 2) (off : Offset) : Word :=
  cls ++ w ++ sz ++ (0#11) ++ off

/-- The palette index of an aligned offset in the palette block, `OFF / 4` (R104). -/
def palIndex (off : Offset) : BitVec 8 := off.extractLsb' 2 8

/-- The offset of palette entry `i`, `4 * i` (R104). -/
def palOffset (i : BitVec 8) : Offset := (0#6) ++ i ++ (0#2)

/-- The reserved descriptors of R109: class 11, a reserved bit set, or an event descriptor with `W`, `SZ`
or a code above 4. -/
def descReserved (d : Word) : Bool :=
  descRsv d != 0 || descCls d == 3 ||
    (descCls d == 2 && (descW d != 0 || descSz d != 0 || decide (4 < (descOff d).toNat)))

/-- The event with code `off` (R105). -/
def decodeEventCode (e : Event) : Instr :=
  match (descOff e.desc).toNat with
  | 0 => .redraw
  | 1 => .fire
  | 2 => .reset
  | 3 => .memw e.addr e.byte0 e.bytes
  | 4 => .advance e.time
  | _ => .refuse e.desc

/-- A bus access of a width other than 32 bits (R107: `blk_BADSIZE`). -/
def decodeBadsize (e : Event) : Instr :=
  if descCls e.desc = 0 then
    if descW e.desc = 0 then .rdRegBadsize (descSz e.desc) (descOff e.desc)
    else .wrRegBadsize (descSz e.desc) (descOff e.desc) e.data
  else
    if descW e.desc = 0 then .palReadBadsize (descSz e.desc) (descOff e.desc)
    else .palWriteBadsize (descSz e.desc) (descOff e.desc) e.data

/-- A 32-bit bus access at an offset that is no multiple of 4 (R107: `blk_MISALIGNED`). -/
def decodeMisaligned (e : Event) : Instr :=
  if descCls e.desc = 0 then
    if descW e.desc = 0 then .rdRegMisaligned (descOff e.desc)
    else .wrRegMisaligned (descOff e.desc) e.data
  else
    if descW e.desc = 0 then .palReadMisaligned (descOff e.desc)
    else .palWriteMisaligned (descOff e.desc) e.data

/-- An aligned 32-bit access of the register block (R103; past 0x14, R107: `blk_OOR`). -/
def decodeRegister (e : Event) : Instr :=
  if descW e.desc = 0 then
    match (descOff e.desc).toNat with
    | 0x00 => .rdVblAck
    | 0x04 => .rdVblPeriod
    | 0x08 => .rdDepth
    | 0x0C => .rdWidth
    | 0x10 => .rdHeight
    | 0x14 => .rdVaddr
    | _ => .rdRegOor (descOff e.desc)
  else
    match (descOff e.desc).toNat with
    | 0x00 => .wrVblAck e.data
    | 0x04 => .wrVblPeriod e.data
    | 0x08 => .wrDepth e.data
    | 0x0C => .wrWidth e.data
    | 0x10 => .wrHeight e.data
    | 0x14 => .wrVaddr e.data
    | _ => .wrRegOor (descOff e.desc) e.data

/-- An aligned 32-bit access of the palette block (R104; past 0x3FC, R107: `blk_OOR`). -/
def decodePalette (e : Event) : Instr :=
  if (descOff e.desc).toNat ≤ 0x3FC then
    if descW e.desc = 0 then .palRead (palIndex (descOff e.desc))
    else .palWrite (palIndex (descOff e.desc)) e.data
  else
    if descW e.desc = 0 then .palReadOor (descOff e.desc)
    else .palWriteOor (descOff e.desc) e.data

/-- The decoder (R107), total on every descriptor, in the order of the rule's pseudocode. A reserved
descriptor is the row `REFUSE`, which names it. -/
def decode (e : Event) : Instr :=
  if descReserved e.desc then .refuse e.desc
  else if descCls e.desc = 2 then decodeEventCode e
  else if descSz e.desc ≠ 2 then decodeBadsize e
  else if (descOff e.desc).toNat % 4 ≠ 0 then decodeMisaligned e
  else if descCls e.desc = 0 then decodeRegister e
  else decodePalette e

/-- The decoder dispatch table, matched on the whole 32-bit depth value (R113); no other depth reaches
the table. -/
def dispatch (depth : Word) : Option Routine :=
  match depth.toNat with
  | 1 => some .decode1
  | 2 => some .decode2
  | 4 => some .decode4
  | 8 => some .decode8
  | _ => none

/-- The number of planes a routine reads for each group: its depth (R113). -/
def routineDepth : Routine → Nat
  | .decode1 => 1
  | .decode2 => 2
  | .decode4 => 4
  | .decode8 => 8

/-- The instruction a routine is, with its operands (R192 to R195). -/
def routineInstr : Routine → Nat → Nat → Nat → Instr
  | .decode1, a, y, w => .decode1 a y w
  | .decode2, a, y, w => .decode2 a y w
  | .decode4, a, y, w => .decode4 a y w
  | .decode8, a, y, w => .decode8 a y w

/-- The encoder: the event of each instruction, its unused operands 0. The four decoder routines have no
descriptor (R113: they are reached from the redraw pass, through `dispatch`), so they have no event. -/
def encode : Instr → Option Event
  | .rdVblAck => some { desc := mkDesc 0 0 2 0x00 }
  | .wrVblAck d => some { desc := mkDesc 0 1 2 0x00, data := d }
  | .rdVblPeriod => some { desc := mkDesc 0 0 2 0x04 }
  | .wrVblPeriod d => some { desc := mkDesc 0 1 2 0x04, data := d }
  | .rdDepth => some { desc := mkDesc 0 0 2 0x08 }
  | .wrDepth d => some { desc := mkDesc 0 1 2 0x08, data := d }
  | .rdWidth => some { desc := mkDesc 0 0 2 0x0C }
  | .wrWidth d => some { desc := mkDesc 0 1 2 0x0C, data := d }
  | .rdHeight => some { desc := mkDesc 0 0 2 0x10 }
  | .wrHeight d => some { desc := mkDesc 0 1 2 0x10, data := d }
  | .rdVaddr => some { desc := mkDesc 0 0 2 0x14 }
  | .wrVaddr d => some { desc := mkDesc 0 1 2 0x14, data := d }
  | .rdRegOor o => some { desc := mkDesc 0 0 2 o }
  | .wrRegOor o d => some { desc := mkDesc 0 1 2 o, data := d }
  | .rdRegMisaligned o => some { desc := mkDesc 0 0 2 o }
  | .wrRegMisaligned o d => some { desc := mkDesc 0 1 2 o, data := d }
  | .rdRegBadsize z o => some { desc := mkDesc 0 0 z o }
  | .wrRegBadsize z o d => some { desc := mkDesc 0 1 z o, data := d }
  | .palRead i => some { desc := mkDesc 1 0 2 (palOffset i) }
  | .palWrite i d => some { desc := mkDesc 1 1 2 (palOffset i), data := d }
  | .palReadOor o => some { desc := mkDesc 1 0 2 o }
  | .palWriteOor o d => some { desc := mkDesc 1 1 2 o, data := d }
  | .palReadMisaligned o => some { desc := mkDesc 1 0 2 o }
  | .palWriteMisaligned o d => some { desc := mkDesc 1 1 2 o, data := d }
  | .palReadBadsize z o => some { desc := mkDesc 1 0 z o }
  | .palWriteBadsize z o d => some { desc := mkDesc 1 1 z o, data := d }
  | .redraw => some { desc := mkDesc 2 0 0 0 }
  | .fire => some { desc := mkDesc 2 0 0 1 }
  | .reset => some { desc := mkDesc 2 0 0 2 }
  | .memw a b bs => some { desc := mkDesc 2 0 0 3, addr := a, byte0 := b, bytes := bs }
  | .advance t => some { desc := mkDesc 2 0 0 4, time := t }
  | .refuse d => some { desc := d }
  | .decode1 _ _ _ => none
  | .decode2 _ _ _ => none
  | .decode4 _ _ _ => none
  | .decode8 _ _ _ => none

/-- The depth value a decoder routine is dispatched on (R113); no other instruction has one. -/
def encodeDispatch : Instr → Option Word
  | .decode1 _ _ _ => some 1
  | .decode2 _ _ _ => some 2
  | .decode4 _ _ _ => some 4
  | .decode8 _ _ _ => some 8
  | _ => none

/-- The mnemonic of each instruction, as spec/opcode_table.json spells it. -/
def mnemonic : Instr → String
  | .rdVblAck => "RD_VBL_ACK"
  | .wrVblAck _ => "WR_VBL_ACK"
  | .rdVblPeriod => "RD_VBL_PERIOD"
  | .wrVblPeriod _ => "WR_VBL_PERIOD"
  | .rdDepth => "RD_DEPTH"
  | .wrDepth _ => "WR_DEPTH"
  | .rdWidth => "RD_WIDTH"
  | .wrWidth _ => "WR_WIDTH"
  | .rdHeight => "RD_HEIGHT"
  | .wrHeight _ => "WR_HEIGHT"
  | .rdVaddr => "RD_VADDR"
  | .wrVaddr _ => "WR_VADDR"
  | .rdRegOor _ => "RD_REG_OOR"
  | .wrRegOor _ _ => "WR_REG_OOR"
  | .rdRegMisaligned _ => "RD_REG_MISALIGNED"
  | .wrRegMisaligned _ _ => "WR_REG_MISALIGNED"
  | .rdRegBadsize _ _ => "RD_REG_BADSIZE"
  | .wrRegBadsize _ _ _ => "WR_REG_BADSIZE"
  | .palRead _ => "PAL_READ"
  | .palWrite _ _ => "PAL_WRITE"
  | .palReadOor _ => "PAL_READ_OOR"
  | .palWriteOor _ _ => "PAL_WRITE_OOR"
  | .palReadMisaligned _ => "PAL_READ_MISALIGNED"
  | .palWriteMisaligned _ _ => "PAL_WRITE_MISALIGNED"
  | .palReadBadsize _ _ => "PAL_READ_BADSIZE"
  | .palWriteBadsize _ _ _ => "PAL_WRITE_BADSIZE"
  | .redraw => "REDRAW"
  | .fire => "FIRE"
  | .reset => "RESET"
  | .memw _ _ _ => "MEMW"
  | .advance _ => "ADVANCE"
  | .refuse _ => "REFUSE"
  | .decode1 _ _ _ => "DECODE_1"
  | .decode2 _ _ _ => "DECODE_2"
  | .decode4 _ _ _ => "DECODE_4"
  | .decode8 _ _ _ => "DECODE_8"

/-- One row of the opcode map (R108). -/
structure OpcodeRow where
  /-- The row's priority: the rows are tried in increasing priority (R107). -/
  priority : Nat
  /-- The row's mnemonic. -/
  name : String
  /-- The row's `match` value. -/
  pattern : Word
  /-- The row's `mask` value. -/
  mask : Word
deriving DecidableEq, Repr

/-- The register rows of the opcode map (R108). -/
def opcodeMapRegisters : List OpcodeRow := [
  ⟨1, "RD_VBL_ACK", 0x10000000, 0xFFFFFFFF⟩,
  ⟨1, "WR_VBL_ACK", 0x30000000, 0xFFFFFFFF⟩,
  ⟨1, "RD_VBL_PERIOD", 0x10000004, 0xFFFFFFFF⟩,
  ⟨1, "WR_VBL_PERIOD", 0x30000004, 0xFFFFFFFF⟩,
  ⟨1, "RD_DEPTH", 0x10000008, 0xFFFFFFFF⟩,
  ⟨1, "WR_DEPTH", 0x30000008, 0xFFFFFFFF⟩,
  ⟨1, "RD_WIDTH", 0x1000000C, 0xFFFFFFFF⟩,
  ⟨1, "WR_WIDTH", 0x3000000C, 0xFFFFFFFF⟩,
  ⟨1, "RD_HEIGHT", 0x10000010, 0xFFFFFFFF⟩,
  ⟨1, "WR_HEIGHT", 0x30000010, 0xFFFFFFFF⟩,
  ⟨1, "RD_VADDR", 0x10000014, 0xFFFFFFFF⟩,
  ⟨1, "WR_VADDR", 0x30000014, 0xFFFFFFFF⟩]

/-- The register-block rows that reach no register (R108). -/
def opcodeMapNoRegister : List OpcodeRow := [
  ⟨2, "RD_REG_OOR", 0x10000000, 0xFFFF0003⟩,
  ⟨2, "WR_REG_OOR", 0x30000000, 0xFFFF0003⟩,
  ⟨3, "RD_REG_MISALIGNED", 0x10000000, 0xFFFF0000⟩,
  ⟨3, "WR_REG_MISALIGNED", 0x30000000, 0xFFFF0000⟩,
  ⟨4, "RD_REG_BADSIZE", 0x00000000, 0xE7FF0000⟩,
  ⟨4, "WR_REG_BADSIZE", 0x20000000, 0xE7FF0000⟩]

/-- The palette-block rows of the opcode map (R108). -/
def opcodeMapPalette : List OpcodeRow := [
  ⟨1, "PAL_READ", 0x50000000, 0xFFFFFC03⟩,
  ⟨1, "PAL_WRITE", 0x70000000, 0xFFFFFC03⟩,
  ⟨2, "PAL_READ_OOR", 0x50000000, 0xFFFF0003⟩,
  ⟨2, "PAL_WRITE_OOR", 0x70000000, 0xFFFF0003⟩,
  ⟨3, "PAL_READ_MISALIGNED", 0x50000000, 0xFFFF0000⟩,
  ⟨3, "PAL_WRITE_MISALIGNED", 0x70000000, 0xFFFF0000⟩,
  ⟨4, "PAL_READ_BADSIZE", 0x40000000, 0xE7FF0000⟩,
  ⟨4, "PAL_WRITE_BADSIZE", 0x60000000, 0xE7FF0000⟩]

/-- The event rows and the last row of the opcode map (R108). -/
def opcodeMapEvents : List OpcodeRow := [
  ⟨1, "REDRAW", 0x80000000, 0xFFFFFFFF⟩,
  ⟨1, "FIRE", 0x80000001, 0xFFFFFFFF⟩,
  ⟨1, "RESET", 0x80000002, 0xFFFFFFFF⟩,
  ⟨1, "MEMW", 0x80000003, 0xFFFFFFFF⟩,
  ⟨1, "ADVANCE", 0x80000004, 0xFFFFFFFF⟩,
  ⟨9, "REFUSE", 0x00000000, 0x00000000⟩]

/-- The opcode map of R108: every row a descriptor is matched against. -/
def opcodeMap : List OpcodeRow :=
  opcodeMapRegisters ++ opcodeMapNoRegister ++ opcodeMapPalette ++ opcodeMapEvents

/-- `(desc & mask) == match` (R107). -/
def OpcodeRow.hits (r : OpcodeRow) (d : Word) : Bool := (d &&& r.mask) == r.pattern

/-- The first row that a descriptor hits, trying the rows in increasing priority (R107). -/
def selectRow (d : Word) : Option OpcodeRow :=
  [1, 2, 3, 4, 9].findSome? fun p => opcodeMap.find? fun r => r.priority == p && r.hits d

/-- The instruction the decoder reads from the table's word: the descriptor is the whole 32 bits, and every
operand is 0. A word of another width is no descriptor (R112). -/
def decodeTableWord (nbits w : Nat) : Option Instr :=
  if nbits = 32 ∧ w < 2 ^ 32 then some (decode { desc := BitVec.ofNat 32 w }) else none

end Sys2Proof
end

