-- ==== Sys2Proof/Machine/State.lean ====
section
/-! DEFINITION. The state of the core (spec/10_state.md), its stops, and its value after attach. -/

namespace Sys2Proof.Machine

/-- The fields of the active-mode latch while the display is on (R39). -/
structure ActiveMode where
  /-- `act.depth`, bits per pixel: one of 1, 2, 4, 8. -/
  depth : Nat
  /-- `act.width`, pixels per scanline: 320 to 2048, a multiple of 16. -/
  width : Nat
  /-- `act.height`, scanlines: 1 to 2048. -/
  height : Nat
  /-- `act.base`, system address of scanline 0: 32 bits, even, not 0. -/
  base : Word
  /-- `act.stride`, bytes per scanline: `act.width * act.depth / 8`. -/
  stride : Nat
  /-- `act.decode`, the selected decoder routine. -/
  decode : Routine
deriving DecidableEq, Repr

/-- One message to the display subsystem (R50). -/
inductive Notification where
  /-- `resize(width, height)` (R228). -/
  | resize (w h : Nat)
  /-- `update(x, y, width, height)` (R229). -/
  | update (x y w h : Nat)
deriving DecidableEq, Repr

/-- System memory as far as `MEMW` events have written it: address and byte, addresses strictly rising, no
entry equal to what the oracle `Config.sysMem` gives there (see `Memory.wf` in Machine/Ops.lean). -/
abbrev Memory := List Host.Cell

/-- The drawn part of the surface: for each row that has been drawn, the pixels of its columns from 0 on;
rows strictly rising, no empty row (see `surfaceWf` in Machine/Ops.lean). The rest of the surface reads as
the free value `Config.initPixel`. -/
abbrev Surface := List (Nat × List Color)

/-- The state of the core, and what it sees of its host (spec/10_state.md). `VBL_ACK` holds no value (R31),
so no field stands for it. -/
structure State where
  /-- `reg[VBL_PERIOD]`, nanoseconds of virtual time, 0 when the timer is Idle (R32). -/
  vblPeriod : Word
  /-- `reg[DEPTH]`, stored verbatim (R33). -/
  depth : Word
  /-- `reg[WIDTH]`, stored verbatim (R34). -/
  width : Word
  /-- `reg[HEIGHT]`, stored verbatim (R35). -/
  height : Word
  /-- `reg[VADDR]`, 0 is the off-sentinel (R36). -/
  vaddr : Word
  /-- `pal[0..255]`, the palette store (R37). -/
  pal : Vector Color 256
  /-- The active-mode latch: `none` is `act.on = 0`, when its other fields hold no defined value (R39). -/
  act : Option ActiveMode
  /-- `full_redraw` (R42). -/
  fullRedraw : Bool
  /-- `irq`, the level of the interrupt line, `true` asserted (R43). -/
  irq : Bool
  /-- The timer's `armed` and `deadline`: `none` is Idle, when no deadline is defined (R44, R261). -/
  deadline : Option Nat
  /-- `now`, virtual time in nanoseconds (R46). -/
  now : Nat
  /-- System memory over the oracle `Config.sysMem` (R71). -/
  mem : Memory
  /-- `L`, the live dirty log: byte addresses, strictly rising (R47). -/
  dirty : List Nat
  /-- `surf_w` (R49). -/
  surfW : Nat
  /-- `surf_h` (R49). -/
  surfH : Nat
  /-- `surf[y][x]`, the drawn part (R49). -/
  surf : Surface
  /-- The notification stream, oldest first (R50). -/
  notes : List Notification
  /-- The values bus reads have returned, oldest first (R106, R308). -/
  rdata : List Word
  /-- The events delivered to the core and not yet run, the next one first (R100, R265). The MODEL's own
  field: the sequencer's order of events. -/
  pending : List Event
deriving DecidableEq, Repr

/-- `act.on` (R39). -/
def State.displayOn (s : State) : Bool := s.act.isSome

/-- `armed` (R44). -/
def State.armed (s : State) : Bool := s.deadline.isSome

/-- The ways the machine faults: none. The core raises no exception and records no fault (R290), and no
item of spec/93_implementation_defined.md is treated as a fault, so this type has no constructor. -/
inductive Fault where
deriving DecidableEq, Repr

/-- The reasons a step refuses to run. -/
inductive Refusal where
  /-- An instruction that has no meaning in the model: raised by no arm of `exec` now. Safe. -/
  | notModelled (mnemonic : String)
  /-- The descriptor is reserved and spells no transaction; raised by `REFUSE` alone (R109: "The model
  refuses them"). Safe: a real bus cannot present it. -/
  | reservedDescriptor (desc : Word)
  /-- `FIRE` while the timer is Idle or `now` is not the deadline; raised by `FIRE` alone (R260: "refused by
  the model; it is not a state the core can reach"). Safe. -/
  | fireNotEnabled
  /-- `ADVANCE` backwards or past an armed deadline; raised by `ADVANCE` alone (R263: "refused by the
  model"). Safe. -/
  | advanceNotEnabled
deriving DecidableEq, Repr

/-- The state right after attach (R55, R321), with no event delivered. The values the spec leaves open are
the parameters of Config; `now`, the dirty log and the streams start at the values that notes/assumptions
name. -/
def State.reset : State where
  vblPeriod := 0
  depth := 0
  width := 0
  height := 0
  vaddr := 0
  pal := Config.defaultPalette Config.resetPaletteDepth
  act := none
  fullRedraw := false
  irq := false
  deadline := none
  now := 0
  mem := []
  dirty := []
  surfW := Config.initSurfW
  surfH := Config.initSurfH
  surf := []
  notes := []
  rdata := []
  pending := []

end Sys2Proof.Machine
end

