-- ==== Sys2Proof/Machine/Ops.lean ====
section
/-! DEFINITION. The named operations over system memory, the dirty log, the registers, the palette, the
surface, the notification stream and the timer. The core takes no exception and returns from none (R290,
R298), so there is no such operation: its one interrupt output is the level of Machine/Flags.lean. -/

namespace Sys2Proof.Machine

/-! ## System memory (R71 to R73) -/

/-- What an address that no entry lists reads as: the oracle `SysMem` (D20). -/
def Memory.unlisted (a : Nat) : Byte := Config.sysMem a

/-- `SysMem(a)`, the byte of system memory at `a`. -/
def Memory.read : Memory → Nat → Byte
  | [], a => Memory.unlisted a
  | (k, b) :: m, a => if k = a then b else Memory.read m a

/-- Lists byte `b` at address `a`, keeping the addresses rising. -/
def Memory.insert (a : Nat) (b : Byte) : Memory → Memory
  | [] => [(a, b)]
  | (k, c) :: m =>
    if a < k then (a, b) :: (k, c) :: m
    else if a = k then (a, b) :: m
    else (k, c) :: Memory.insert a b m

/-- Takes address `a` off the list. -/
def Memory.erase (a : Nat) : Memory → Memory
  | [] => []
  | (k, c) :: m => if k = a then m else (k, c) :: Memory.erase a m

/-- `SysMem(a) <- b`: a byte equal to what the oracle gives is not listed, so that equal memories are equal
lists. -/
def Memory.write (a : Nat) (b : Byte) (m : Memory) : Memory :=
  if b = Memory.unlisted a then Memory.erase a m else Memory.insert a b m

/-- The canonical form: addresses strictly rising, no entry equal to the oracle's byte. -/
def Memory.wf (m : Memory) : Bool :=
  decide (m.Pairwise fun p q => p.1 < q.1) && m.all fun p => p.2 != Memory.unlisted p.1

/-- `MemRead(a, n)`: the `n` bytes at `a` as one number, the byte at the lowest address most significant
(R73). -/
def State.memRead (s : State) (a n : Nat) : Nat :=
  ((List.range n).map fun k => (Memory.read s.mem (a + k)).toNat <<< (8 * (n - 1 - k))).sum

/-! ## The dirty log (R47, R220 to R222) -/

/-- Adds address `a` to a log, keeping it strictly rising. -/
def dirtyInsert (a : Nat) : List Nat → List Nat
  | [] => [a]
  | k :: l => if a < k then a :: k :: l else if a = k then k :: l else k :: dirtyInsert a l

/-- The log is a set of addresses in one canonical form: strictly rising. -/
def dirtyWf (l : List Nat) : Bool := decide (l.Pairwise (· < ·))

/-- One byte of a guest write: it reaches memory and its address enters the log (R220). -/
def State.guestWriteByte (a : Nat) (b : Byte) (s : State) : State :=
  { s with mem := Memory.write a b s.mem, dirty := dirtyInsert a s.dirty }

/-- The bytes of a guest write, from `a` upward (R220). -/
def State.guestWrite (a : Nat) : List Byte → State → State
  | [], s => s
  | b :: bs, s => State.guestWrite (a + 1) bs (s.guestWriteByte a b)

/-- The answer of `QueryClear(lo, hi)`: the logged addresses of the range, `L ∩ [lo, hi)` (R222). -/
def State.dirtyIn (s : State) (lo hi : Nat) : List Nat :=
  s.dirty.filter fun a => decide (lo ≤ a) && decide (a < hi)

/-- The clearing half of `QueryClear(lo, hi)`: `L \ [lo, hi)` (R222). -/
def State.clearDirtyIn (s : State) (lo hi : Nat) : State :=
  { s with dirty := s.dirty.filter fun a => !(decide (lo ≤ a) && decide (a < hi)) }

/-- `QueryClear(lo, hi)`: the snapshot and the state with the range cleared, as one step (R222, R88). -/
def State.queryClear (s : State) (lo hi : Nat) : List Nat × State :=
  (s.dirtyIn lo hi, s.clearDirtyIn lo hi)

/-! ## Registers (R30 to R36) -/

/-- The six registers, in the order of their offsets (R30, R103). -/
inductive RegName where
  | vblAck
  | vblPeriod
  | depth
  | width
  | height
  | vaddr
deriving DecidableEq, Repr

/-- The byte offset of a register in the register block (R103). -/
def regOffset : RegName → Offset
  | .vblAck => 0x00
  | .vblPeriod => 0x04
  | .depth => 0x08
  | .width => 0x0C
  | .height => 0x10
  | .vaddr => 0x14

/-- The value a read of a register gives: `reg[NAME]`, and 0 for the strobe `VBL_ACK` (R31). -/
def State.regRead (s : State) : RegName → Word
  | .vblAck => 0
  | .vblPeriod => s.vblPeriod
  | .depth => s.depth
  | .width => s.width
  | .height => s.height
  | .vaddr => s.vaddr

/-- `reg[NAME] <- v`; the strobe `VBL_ACK` stores nothing (R31). -/
def State.regStore (r : RegName) (v : Word) (s : State) : State :=
  match r with
  | .vblAck => s
  | .vblPeriod => { s with vblPeriod := v }
  | .depth => { s with depth := v }
  | .width => { s with width := v }
  | .height => { s with height := v }
  | .vaddr => { s with vaddr := v }

/-- `return v`: a bus read completes with data `v` (R13, R106). It changes nothing else (R81). -/
def State.returnData (v : Word) (s : State) : State := { s with rdata := s.rdata ++ [v] }

/-- The latch is written (R39: only by a `VADDR` write and by reset). -/
def State.setAct (m : Option ActiveMode) (s : State) : State := { s with act := m }

/-! ## The palette store (R37, R179) -/

/-- `read(index)`: "returns stored value or 0 if out of range" (R170). -/
def State.palRead (s : State) (i : Nat) : Color := (s.pal[i]?).getD 0

/-- `write(index, color)`: "stores if `index` in range, else no-op" (R172). -/
def State.palWrite (i : Nat) (v : Color) (s : State) : State := { s with pal := s.pal.setIfInBounds i v }

/-- `reset(depth)`: the whole store becomes the built-in table of `depth` (R179). -/
def State.palReset (d : Depth) (s : State) : State := { s with pal := Config.defaultPalette d }

/-! ## The display surface (R49) -/

/-- The drawn columns of row `y`. -/
def Surface.row : Surface → Nat → List Color
  | [], _ => []
  | (k, r) :: m, y => if k = y then r else Surface.row m y

/-- Lists row `y`, keeping the rows rising. -/
def Surface.insert (y : Nat) (r : List Color) : Surface → Surface
  | [] => [(y, r)]
  | (k, q) :: m =>
    if y < k then (y, r) :: (k, q) :: m
    else if y = k then (y, r) :: m
    else (k, q) :: Surface.insert y r m

/-- Cuts the drawn part to a surface of `w` columns and `h` rows, dropping rows left with no pixel. -/
def Surface.cut (w h : Nat) : Surface → Surface
  | [] => []
  | (k, r) :: m =>
    if k < h ∧ r.take w ≠ [] then (k, r.take w) :: Surface.cut w h m else Surface.cut w h m

/-- The canonical form of the drawn part of a surface of `w` columns and `h` rows. -/
def surfaceWf (w h : Nat) (m : Surface) : Bool :=
  decide (m.Pairwise fun p q => p.1 < q.1) &&
    m.all fun p => decide (p.1 < h) && decide (p.2.length ≤ w) && p.2 != []

/-- `surf[y][x]`: a pixel of the surface, `none` outside it; a pixel not yet drawn is the free value
`Config.initPixel` (R49, D19). -/
def State.pixel (s : State) (x y : Nat) : Option Color :=
  if x < s.surfW ∧ y < s.surfH then some (((Surface.row s.surf y)[x]?).getD (Config.initPixel x y)) else none

/-- The drawn columns of row `y` after the pixels `px` are written to its columns from 0 on; the columns
past the surface's width do not exist (R49). -/
def State.drawnRow (s : State) (y : Nat) (px : List Color) : List Color :=
  (px ++ (Surface.row s.surf y).drop px.length).take s.surfW

/-- `surf[y][x] <- px[x]` for every column `x` of `px` that the surface has (R191: only row `y`). -/
def State.writeRow (y : Nat) (px : List Color) (s : State) : State :=
  if y < s.surfH ∧ s.drawnRow y px ≠ [] then { s with surf := Surface.insert y (s.drawnRow y px) s.surf } else s

/-! ## Notifications (R50, R228, R229) -/

/-- `emit n`: one message at the end of the notification stream. -/
def State.emit (n : Notification) (s : State) : State := { s with notes := s.notes ++ [n] }

/-- `(surf_w, surf_h) <- (w, h)`: pixels inside both sizes stay (R223: "Rows not redrawn keep their surface
pixels"). -/
def State.setSurfaceSize (w h : Nat) (s : State) : State :=
  { s with surfW := w, surfH := h, surf := Surface.cut w h s.surf }

/-! ## The timer and virtual time (R44 to R46, R261) -/

/-- `armed <- 1; deadline <- d`. -/
def State.arm (d : Nat) (s : State) : State := { s with deadline := some d }

/-- `armed <- 0`: no firing is scheduled (R261: Idle). -/
def State.disarm (s : State) : State := { s with deadline := none }

/-- `now <- t` (R263). -/
def State.setNow (t : Nat) (s : State) : State := { s with now := t }

/-! ## The sequencer's queue (R100, R265) -/

/-- The events still to run become `es`. -/
def State.setPending (es : List Event) (s : State) : State := { s with pending := es }

end Sys2Proof.Machine
end

