-- ==== Sys2Proof/Machine/Operands.lean ====
section
/-! DEFINITION. What the operands of the events stand for: the mode that a `VADDR` write validates (R142),
the geometry it latches (R141) and the frame it names (R41, R225). The write data of a register or palette
write is used whole (R106) and a palette index is a field the decoder extracts (R104), so neither needs an
operation of its own. -/

namespace Sys2Proof.Machine

/-- The validation predicate `Valid(d, w, h, a)`, on the unsigned 32-bit values (R142). -/
def validMode (d w h a : Word) : Bool :=
  a != 0 && a.toNat % 2 == 0
    && (d == 1 || d == 2 || d == 4 || d == 8)
    && (w.toNat % 16 == 0 && decide (320 ≤ w.toNat) && decide (w.toNat ≤ 2048))
    && (decide (1 ≤ h.toNat) && decide (h.toNat ≤ 2048))

/-- The bytes of one scanline, `width * depth / 8` (R39). -/
def strideOf (width depth : Nat) : Nat := width * depth / 8

/-- The latch that an accepted `VADDR` write captures, with the routine that the dispatch table selects
(R141, R113). -/
def latchMode (d w h a : Word) (r : Routine) : ActiveMode where
  depth := d.toNat
  width := w.toNat
  height := h.toNat
  base := a
  stride := strideOf w.toNat d.toNat
  decode := r

/-- The address of scanline `y` of a frame (R225). -/
def ActiveMode.rowStart (m : ActiveMode) (y : Nat) : Nat := m.base.toNat + y * m.stride

/-- The end of the Frame Buffer View, `act.base + act.height * act.stride` (R41). -/
def ActiveMode.frameEnd (m : ActiveMode) : Nat := m.base.toNat + m.height * m.stride

end Sys2Proof.Machine
end

