-- ==== Sys2Proof/Machine/Palette.lean ====
section
/-! DEFINITION. The palette block (spec/41_palette.md R170 to R178). No access here sets a flag, sends a
notification (R180) or raises an exception. -/

namespace Sys2Proof.Machine

/-- `PAL_READ` (R170): all 32 bits of the entry, at every depth. -/
def execPalRead (i : BitVec 8) (s : State) : Host.Outcome State Fault Refusal :=
  .next (s.returnData (s.palRead i.toNat))

/-- `PAL_WRITE` (R172): the whole value is stored; no other entry changes. -/
def execPalWrite (i : BitVec 8) (data : Word) (s : State) : Host.Outcome State Fault Refusal :=
  .next (s.palWrite i.toNat data)

/-- `PAL_READ_OOR` (R171): returns 0. -/
def execPalReadOor (_off : Offset) (s : State) : Host.Outcome State Fault Refusal := .next (s.returnData 0)

/-- `PAL_WRITE_OOR` (R175): no operation; the write does not wrap. -/
def execPalWriteOor (_off : Offset) (_data : Word) (s : State) : Host.Outcome State Fault Refusal := .next s

/-- `PAL_READ_MISALIGNED` (R173): returns 0. -/
def execPalReadMisaligned (_off : Offset) (s : State) : Host.Outcome State Fault Refusal :=
  .next (s.returnData 0)

/-- `PAL_WRITE_MISALIGNED` (R176): no operation. -/
def execPalWriteMisaligned (_off : Offset) (_data : Word) (s : State) : Host.Outcome State Fault Refusal :=
  .next s

/-- `PAL_READ_BADSIZE` (R177): returns 0. -/
def execPalReadBadsize (_sz : BitVec 2) (_off : Offset) (s : State) : Host.Outcome State Fault Refusal :=
  .next (s.returnData 0)

/-- `PAL_WRITE_BADSIZE` (R178): no operation. -/
def execPalWriteBadsize (_sz : BitVec 2) (_off : Offset) (_data : Word) (s : State) :
    Host.Outcome State Fault Refusal := .next s

end Sys2Proof.Machine
end

