-- ==== Sys2Proof/Machine/Flags.lean ====
section
/-! DEFINITION. The core's flags and its interrupt line (R42, R43): every change any rule makes to them.
`armed`, the third flag of the rules' "Flags written" clauses, changes with the deadline: `State.arm` and
`State.disarm` of Machine/Ops.lean. -/

namespace Sys2Proof.Machine

/-- `irq <- 1`: the line is asserted, idempotent if it already is (R260). -/
def State.raiseIrq (s : State) : State := { s with irq := true }

/-- `irq <- 0`: the line is deasserted (R131, R320). -/
def State.lowerIrq (s : State) : State := { s with irq := false }

/-- `full_redraw <- 1` (R141, on acceptance). -/
def State.setFullRedraw (s : State) : State := { s with fullRedraw := true }

/-- `full_redraw <- 0` (R224, R320). -/
def State.clearFullRedraw (s : State) : State := { s with fullRedraw := false }

end Sys2Proof.Machine
end

