-- ==== Sys2Proof/Machine/PlanarDecoder.lean ====
section
/-! DEFINITION. The planar decoder (spec/42_planar_decoder.md). The four routines share one definition
(R190, R196); the redraw pass reaches them through the latch's `act.decode`. -/

namespace Sys2Proof.Machine

/-- `w[p]` of group `g`: the plane word at `a + 2 * (g * d + p)`, big-endian (R190, R73). -/
def planeWord (s : State) (d a g p : Nat) : BitVec 16 := BitVec.ofNat 16 (s.memRead (a + 2 * (g * d + p)) 2)

/-- The plane words of group `g`, plane 0 first (R190). -/
def planeWords (s : State) (d a g : Nat) : List (BitVec 16) := (List.range d).map (planeWord s d a g)

/-- The palette index that bit `b` of the plane words forms: bit `p` of the index is bit `b` of plane `p`'s
word (R190). -/
def gatherIndex (ws : List (BitVec 16)) (b : Nat) : Nat :=
  ((List.range ws.length).map fun p => ((ws.getD p 0).getLsbD b).toNat <<< p).sum

/-- The 16 pixels of a group, most significant bit first, each the whole palette entry (R190, R191). -/
def groupPixels (s : State) (ws : List (BitVec 16)) : List Color :=
  (List.range 16).map fun i => s.palRead (gatherIndex ws (15 - i))

/-- The pixels of the scanline of `W` pixels and depth `d` that starts at `a`, left to right (R190). -/
def scanlinePixels (s : State) (d a W : Nat) : List Color :=
  (List.range (W / 16)).flatMap fun g => groupPixels s (planeWords s d a g)

/-- `DECODE(d, a, y, W)` (R190): the scanline's pixels go to row `y` of the surface. -/
def decodeScanline (d a y W : Nat) (s : State) : State := s.writeRow y (scanlinePixels s d a W)

/-- The routine `DECODE_1` (R192): one plane, 2 bytes a group. -/
def runDecode1 (a y w : Nat) (s : State) : State := decodeScanline 1 a y w s

/-- The routine `DECODE_2` (R193): two planes, 4 bytes a group. -/
def runDecode2 (a y w : Nat) (s : State) : State := decodeScanline 2 a y w s

/-- The routine `DECODE_4` (R194): four planes, 8 bytes a group. -/
def runDecode4 (a y w : Nat) (s : State) : State := decodeScanline 4 a y w s

/-- The routine `DECODE_8` (R195): eight planes, 16 bytes a group. -/
def runDecode8 (a y w : Nat) (s : State) : State := decodeScanline 8 a y w s

/-- The routine that the latch selected (R113, R223: `act.decode(a, y, W)`). -/
def runRoutine (r : Routine) (a y w : Nat) (s : State) : State :=
  match r with
  | .decode1 => runDecode1 a y w s
  | .decode2 => runDecode2 a y w s
  | .decode4 => runDecode4 a y w s
  | .decode8 => runDecode8 a y w s

/-- `DECODE_1` (R192). -/
def execDecode1 (a y w : Nat) (s : State) : Host.Outcome State Fault Refusal := .next (runDecode1 a y w s)

/-- `DECODE_2` (R193). -/
def execDecode2 (a y w : Nat) (s : State) : Host.Outcome State Fault Refusal := .next (runDecode2 a y w s)

/-- `DECODE_4` (R194). -/
def execDecode4 (a y w : Nat) (s : State) : Host.Outcome State Fault Refusal := .next (runDecode4 a y w s)

/-- `DECODE_8` (R195). -/
def execDecode8 (a y w : Nat) (s : State) : Host.Outcome State Fault Refusal := .next (runDecode8 a y w s)

end Sys2Proof.Machine
end

