-- ==== Sys2Proof/Machine/Redraw.lean ====
section
/-! DEFINITION. The dirty-region tracker and the redraw engine (spec/43_redraw_engine.md). -/

namespace Sys2Proof.Machine

/-- `MEMW` (R220): the bytes reach memory and their addresses enter the dirty log, whether or not a value
changed (D31). -/
def execMemw (addr : Nat) (b : Byte) (bs : List Byte) (s : State) : Host.Outcome State Fault Refusal :=
  .next (s.guestWrite addr (b :: bs))

/-- Scanline `y` is dirty: `full_redraw` is set, or the snapshot holds a byte of its range (R223, R225). -/
def rowDirty (m : ActiveMode) (full : Bool) (snap : List Nat) (y : Nat) : Bool :=
  full || snap.any fun b => decide (m.rowStart y ≤ b) && decide (b < m.rowStart (y + 1))

/-- The end of a run of dirty scanlines: rows `[start, y)` give one update of whole rows, and no open run
gives none (R223, R229). -/
def closeRun (m : ActiveMode) (run : Option Nat) (y : Nat) (s : State) : State :=
  match run with
  | some start => s.emit (.update 0 start m.width (y - start))
  | none => s

/-- Steps 3 and 4 of a pass (R223) over the `n` scanlines from `y` on: `run` is the start of the open run. -/
def redrawRows (m : ActiveMode) (full : Bool) (snap : List Nat) : Nat → Nat → Option Nat → State → State
  | 0, y, run, s => closeRun m run y s
  | n + 1, y, run, s =>
    if rowDirty m full snap y then
      redrawRows m full snap n (y + 1) (some (run.getD y)) (runRoutine m.decode (m.rowStart y) y m.width s)
    else redrawRows m full snap n (y + 1) none (closeRun m run y s)

/-- The resize at the start of a pass: emitted, and the surface takes the size, only if the size differs
(R228). -/
def resizeToMode (m : ActiveMode) (s : State) : State :=
  if s.surfW ≠ m.width ∨ s.surfH ≠ m.height then
    (s.emit (.resize m.width m.height)).setSurfaceSize m.width m.height
  else s

/-- A pass with the display on (R223): resize, snapshot, the scanlines, and the flag cleared (R224). -/
def redrawPass (m : ActiveMode) (s : State) : State :=
  let s1 := resizeToMode m s
  let q := s1.queryClear m.base.toNat m.frameEnd
  (redrawRows m s1.fullRedraw q.1 m.height 0 none q.2).clearFullRedraw

/-- `REDRAW` (R223): one pass; with the display off it does nothing at all. -/
def execRedraw (s : State) : Host.Outcome State Fault Refusal :=
  match s.act with
  | none => .next s
  | some m => .next (redrawPass m s)

end Sys2Proof.Machine
end

