-- ==== Sys2Proof/Machine/RegisterBank.lean ====
section
/-! DEFINITION. The register bank and mode validator (spec/40_register_bank.md). No access here raises an
exception (R290). -/

namespace Sys2Proof.Machine

/-- The outcome of a step of this machine. -/
abbrev Result := Host.Outcome State Fault Refusal

/-- `RD_VBL_ACK` (R130): returns 0; the line and the timer are untouched. -/
def execRdVblAck (s : State) : Result := .next (s.returnData (s.regRead .vblAck))

/-- `WR_VBL_ACK` (R131): lowers the line, whatever the data; nothing is stored. -/
def execWrVblAck (_data : Word) (s : State) : Result := .next s.lowerIrq

/-- `RD_VBL_PERIOD` (R132). -/
def execRdVblPeriod (s : State) : Result := .next (s.returnData (s.regRead .vblPeriod))

/-- The two branches of R133: above the threshold the period is stored and the timer armed for `now + p`,
else the period is 0 and the pending firing cancelled. -/
def writePeriod (p : Word) (s : State) : State :=
  if p.toNat > Config.vblMinNs.val then (s.regStore .vblPeriod p).arm (s.now + p.toNat)
  else (s.regStore .vblPeriod 0).disarm

/-- `WR_VBL_PERIOD` (R133). -/
def execWrVblPeriod (data : Word) (s : State) : Result := .next (writePeriod data s)

/-- `RD_DEPTH` (R134). -/
def execRdDepth (s : State) : Result := .next (s.returnData (s.regRead .depth))

/-- `WR_DEPTH` (R135): stored verbatim, no validation, the active mode unchanged. -/
def execWrDepth (data : Word) (s : State) : Result := .next (s.regStore .depth data)

/-- `RD_WIDTH` (R136). -/
def execRdWidth (s : State) : Result := .next (s.returnData (s.regRead .width))

/-- `WR_WIDTH` (R137): stored verbatim. -/
def execWrWidth (data : Word) (s : State) : Result := .next (s.regStore .width data)

/-- `RD_HEIGHT` (R138). -/
def execRdHeight (s : State) : Result := .next (s.returnData (s.regRead .height))

/-- `WR_HEIGHT` (R139): stored verbatim. -/
def execWrHeight (data : Word) (s : State) : Result := .next (s.regStore .height data)

/-- `RD_VADDR` (R140): the read that tells software whether a mode was accepted. -/
def execRdVaddr (s : State) : Result := .next (s.returnData (s.regRead .vaddr))

/-- The accepting branch of R141: the latch captures the geometry and the dispatched routine, and the next
pass redraws everything. -/
def acceptMode (r : Routine) (s : State) : State :=
  (s.setAct (some (latchMode s.depth s.width s.height s.vaddr r))).setFullRedraw

/-- The rejecting branch of R141: the stored geometry and `VADDR` become 0 and the display is off; the
full-redraw flag stays (D29). -/
def rejectMode (s : State) : State :=
  ((((s.regStore .depth 0).regStore .width 0).regStore .height 0).regStore .vaddr 0).setAct none

/-- `VADDR` is written first and then the whole configuration is validated (R141). The dispatch table has a
row for every depth that passes the validation (R113), so its `none` is the rejecting branch too. -/
def writeVaddr (v : Word) (s : State) : State :=
  let s1 := s.regStore .vaddr v
  if v = 0 then s1.setAct none
  else if validMode s1.depth s1.width s1.height v then
    match dispatch s1.depth with
    | some r => acceptMode r s1
    | none => rejectMode s1
  else rejectMode s1

/-- `WR_VADDR` (R141). -/
def execWrVaddr (data : Word) (s : State) : Result := .next (writeVaddr data s)

/-- `RD_REG_OOR` (R143): returns 0. -/
def execRdRegOor (_off : Offset) (s : State) : Result := .next (s.returnData 0)

/-- `WR_REG_OOR` (R144): "silently ignored on write". -/
def execWrRegOor (_off : Offset) (_data : Word) (s : State) : Result := .next s

/-- `RD_REG_MISALIGNED` (R145): returns 0, not part of a register. -/
def execRdRegMisaligned (_off : Offset) (s : State) : Result := .next (s.returnData 0)

/-- `WR_REG_MISALIGNED` (R146): no operation. -/
def execWrRegMisaligned (_off : Offset) (_data : Word) (s : State) : Result := .next s

/-- `RD_REG_BADSIZE` (R147): returns 0. -/
def execRdRegBadsize (_sz : BitVec 2) (_off : Offset) (s : State) : Result := .next (s.returnData 0)

/-- `WR_REG_BADSIZE` (R148): no operation. -/
def execWrRegBadsize (_sz : BitVec 2) (_off : Offset) (_data : Word) (s : State) : Result := .next s

end Sys2Proof.Machine
end

