-- ==== Sys2Proof/Machine/Reset.lean ====
section
/-! DEFINITION. Device reset and attach (spec/70_reset_and_hazards.md R320, R321; spec/60_exceptions.md
R292), and the refusal of reserved descriptors (spec/30_encoding.md R109). -/

namespace Sys2Proof.Machine

/-- The five stored registers become 0: "re-applies the off state" (R320). -/
def clearRegisters (s : State) : State :=
  ((((s.regStore .vblPeriod 0).regStore .depth 0).regStore .width 0).regStore .height 0).regStore .vaddr 0

/-- Device reset (R320). Virtual time, the dirty log, system memory, the surface and the streams stay. -/
def deviceReset (s : State) : State :=
  (((((clearRegisters s).setAct none).palReset Config.resetPaletteDepth).disarm).lowerIrq).clearFullRedraw

/-- `RESET` (R320). -/
def execReset (s : State) : Host.Outcome State Fault Refusal := .next (deviceReset s)

/-- Attach (R321, R292): a host that provides no supported output pixel format has no device; else the
device starts in the state of R55. -/
def attach (formatSupported : Bool) : Option State := if formatSupported then some State.reset else none

/-- `REFUSE` (R109): a reserved descriptor spells no transaction and the model refuses it by name. -/
def execRefuse (desc : Word) (_s : State) : Host.Outcome State Fault Refusal :=
  .refused (.reservedDescriptor desc)

end Sys2Proof.Machine
end

