-- ==== Sys2Proof/Machine/VblTimer.lean ====
section
/-! DEFINITION. The VBL timer's firing and the advance of virtual time (spec/44_vbl_timer.md). -/

namespace Sys2Proof.Machine

/-- The effect of a firing at deadline `d`: the line is raised, the deadline moves on by the period and the
timer stays Armed (R260). -/
def firing (d : Nat) (s : State) : State := s.raiseIrq.arm (d + s.vblPeriod.toNat)

/-- `FIRE` (R260): enabled only while the timer is Armed and `now` is the deadline. -/
def execFire (s : State) : Host.Outcome State Fault Refusal :=
  match s.deadline with
  | some d => if s.now = d then .next (firing d s) else .refused .fireNotEnabled
  | none => .refused .fireNotEnabled

/-- `ADVANCE` to `t` is enabled: time does not go back and does not pass an armed deadline (R263). -/
def advanceEnabled (t : Nat) (s : State) : Bool :=
  decide (s.now ≤ t) && (match s.deadline with
    | none => true
    | some d => decide (t ≤ d))

/-- `ADVANCE` (R263). -/
def execAdvance (t : Nat) (s : State) : Host.Outcome State Fault Refusal :=
  if advanceEnabled t s then .next (s.setNow t) else .refused .advanceNotEnabled

end Sys2Proof.Machine
end

