-- ==== Sys2Proof/Machine/Dispatch.lean ====
section
/-! DEFINITION. The dispatch of instructions to their meanings: one arm per row of the opcode table. -/

namespace Sys2Proof.Machine

/-- What each instruction does. -/
def exec (i : Instr) (s : State) : Host.Outcome State Fault Refusal :=
  match i with
  | .rdVblAck => Sys2Proof.Machine.execRdVblAck s
  | .wrVblAck data => Sys2Proof.Machine.execWrVblAck data s
  | .rdVblPeriod => Sys2Proof.Machine.execRdVblPeriod s
  | .wrVblPeriod data => Sys2Proof.Machine.execWrVblPeriod data s
  | .rdDepth => Sys2Proof.Machine.execRdDepth s
  | .wrDepth data => Sys2Proof.Machine.execWrDepth data s
  | .rdWidth => Sys2Proof.Machine.execRdWidth s
  | .wrWidth data => Sys2Proof.Machine.execWrWidth data s
  | .rdHeight => Sys2Proof.Machine.execRdHeight s
  | .wrHeight data => Sys2Proof.Machine.execWrHeight data s
  | .rdVaddr => Sys2Proof.Machine.execRdVaddr s
  | .wrVaddr data => Sys2Proof.Machine.execWrVaddr data s
  | .rdRegOor off => Sys2Proof.Machine.execRdRegOor off s
  | .wrRegOor off data => Sys2Proof.Machine.execWrRegOor off data s
  | .rdRegMisaligned off => Sys2Proof.Machine.execRdRegMisaligned off s
  | .wrRegMisaligned off data => Sys2Proof.Machine.execWrRegMisaligned off data s
  | .rdRegBadsize sz off => Sys2Proof.Machine.execRdRegBadsize sz off s
  | .wrRegBadsize sz off data => Sys2Proof.Machine.execWrRegBadsize sz off data s
  | .palRead ix => Sys2Proof.Machine.execPalRead ix s
  | .palWrite ix data => Sys2Proof.Machine.execPalWrite ix data s
  | .palReadOor off => Sys2Proof.Machine.execPalReadOor off s
  | .palWriteOor off data => Sys2Proof.Machine.execPalWriteOor off data s
  | .palReadMisaligned off => Sys2Proof.Machine.execPalReadMisaligned off s
  | .palWriteMisaligned off data => Sys2Proof.Machine.execPalWriteMisaligned off data s
  | .palReadBadsize sz off => Sys2Proof.Machine.execPalReadBadsize sz off s
  | .palWriteBadsize sz off data => Sys2Proof.Machine.execPalWriteBadsize sz off data s
  | .redraw => Sys2Proof.Machine.execRedraw s
  | .fire => Sys2Proof.Machine.execFire s
  | .reset => Sys2Proof.Machine.execReset s
  | .memw addr b bs => Sys2Proof.Machine.execMemw addr b bs s
  | .advance t => Sys2Proof.Machine.execAdvance t s
  | .refuse desc => Sys2Proof.Machine.execRefuse desc s
  | .decode1 a y w => Sys2Proof.Machine.execDecode1 a y w s
  | .decode2 a y w => Sys2Proof.Machine.execDecode2 a y w s
  | .decode4 a y w => Sys2Proof.Machine.execDecode4 a y w s
  | .decode8 a y w => Sys2Proof.Machine.execDecode8 a y w s

end Sys2Proof.Machine
end

