-- ==== Sys2Proof/WellFormed.lean ====
section
/-! DEFINITION. Which terms of `Instr` are instructions: the operand ranges that the rules of
spec/30_encoding.md, 40_register_bank.md, 41_palette.md and 42_planar_decoder.md state. -/

namespace Sys2Proof

/-- An aligned offset of the register block with no register: `OFF % 4 = 0`, `OFF >= 0x18` (R143, R144). -/
def regOffsetOor (off : Offset) : Bool := off.toNat % 4 == 0 && decide (0x18 ≤ off.toNat)

/-- An aligned offset past the last palette entry: `OFF % 4 = 0`, `OFF >= 0x400` (R171, R175). -/
def palOffsetOor (off : Offset) : Bool := off.toNat % 4 == 0 && decide (0x400 ≤ off.toNat)

/-- An offset that is no multiple of 4 (R145, R146, R173, R176). -/
def offsetMisaligned (off : Offset) : Bool := off.toNat % 4 != 0

/-- A `SZ` field other than 32 bits (R147, R148, R177, R178). -/
def sizeBad (sz : BitVec 2) : Bool := sz != 2

/-- The precondition of a decoder routine: a width that is a multiple of 16 from 320 to 2048 (R197), and a
row of a frame of at most 2048 rows (R190, R39). -/
def scanlineOperands (y w : Nat) : Bool :=
  w % 16 == 0 && decide (320 ≤ w) && decide (w ≤ 2048) && decide (y < 2048)

/-- The operands of an instruction lie in the ranges its rule states. -/
def wellFormed : Instr → Bool
  | .rdVblAck => true
  | .wrVblAck _ => true
  | .rdVblPeriod => true
  | .wrVblPeriod _ => true
  | .rdDepth => true
  | .wrDepth _ => true
  | .rdWidth => true
  | .wrWidth _ => true
  | .rdHeight => true
  | .wrHeight _ => true
  | .rdVaddr => true
  | .wrVaddr _ => true
  | .rdRegOor o => regOffsetOor o
  | .wrRegOor o _ => regOffsetOor o
  | .rdRegMisaligned o => offsetMisaligned o
  | .wrRegMisaligned o _ => offsetMisaligned o
  | .rdRegBadsize z _ => sizeBad z
  | .wrRegBadsize z _ _ => sizeBad z
  | .palRead _ => true
  | .palWrite _ _ => true
  | .palReadOor o => palOffsetOor o
  | .palWriteOor o _ => palOffsetOor o
  | .palReadMisaligned o => offsetMisaligned o
  | .palWriteMisaligned o _ => offsetMisaligned o
  | .palReadBadsize z _ => sizeBad z
  | .palWriteBadsize z _ _ => sizeBad z
  | .redraw => true
  | .fire => true
  | .reset => true
  | .memw _ _ _ => true
  | .advance _ => true
  | .refuse d => descReserved d
  | .decode1 _ y w => scanlineOperands y w
  | .decode2 _ y w => scanlineOperands y w
  | .decode4 _ y w => scanlineOperands y w
  | .decode8 _ y w => scanlineOperands y w

end Sys2Proof
end

