-- ==== Sys2Proof/Machine/Step.lean ====
section
/-! DEFINITION. One step of the machine: the next event of the sequencer's order runs to completion (R80,
R100, R265). -/

namespace Sys2Proof.Machine

/-- One step. The core has no program counter (R51): the next event is the first one pending, and it runs in
the state without it. With no event pending the core does nothing (R322). -/
def step (s : State) : Host.Outcome State Fault Refusal :=
  match s.pending with
  | [] => .next s
  | e :: rest => exec (decode e) (s.setPending rest)

/-- The state with the event of the descriptor `w`, its operands 0, next in the sequencer's order. -/
def State.withFetchWord (s : State) (_nbits w : Nat) : State :=
  s.setPending ({ desc := BitVec.ofNat 32 w } :: s.pending)

end Sys2Proof.Machine
end

