-- ==== Sys2Proof/Machine/Platform.lean ====
section
/-! DEFINITION. What the platform presents to the core (spec/20_memory.md R70, R74; spec/30_encoding.md
R111): the two bus blocks, their windows, and the delivery of events to the sequencer's order. -/

namespace Sys2Proof.Machine

/-- The two bus blocks (R70, R303). -/
inductive Block where
  | register
  | palette
deriving DecidableEq, Repr

/-- The `CLS` field of a block's accesses (R101). -/
def blockCls : Block → BitVec 2
  | .register => 0
  | .palette => 1

/-- The system address of a block, platform wiring (R70, D2). -/
def blockBase : Block → Nat
  | .register => Config.regBase
  | .palette => Config.palBase

/-- The byte size of a block's window (R70, D2). -/
def blockWindow : Block → Nat
  | .register => Config.regWindow
  | .palette => Config.palWindow

/-- The byte offset inside a block's window of a system address; outside the window there is none. -/
def blockOffset (b : Block) (addr : Nat) : Option Nat :=
  if blockBase b ≤ addr ∧ addr < blockBase b + blockWindow b then some (addr - blockBase b) else none

/-- The event of a bus access of `2 ^ sz` bytes at a byte offset of a block (R100, R101, R106). -/
def busEvent (b : Block) (write : Bool) (sz : BitVec 2) (off : Nat) (data : Word) : Event :=
  { desc := mkDesc (blockCls b) (if write then 1 else 0) sz (BitVec.ofNat 16 off), data := data }

/-- The platform presents an event to the core: a bus access whose offset is below its block's window (R111),
or any other event. DESIGN CHOICE (log entry 24): the window test looks at the class and the offset alone, so a
register or palette class descriptor that is reserved too (R109) is dropped where its offset is at or above the
window, and is delivered and then refused by its step where it is below; the spec does not say which of the two
rules comes first. -/
def presented (e : Event) : Bool :=
  if descCls e.desc = 0 then decide ((descOff e.desc).toNat < Config.regWindow)
  else if descCls e.desc = 1 then decide ((descOff e.desc).toNat < Config.palWindow)
  else true

/-- The delivery of an event: it comes last in the sequencer's order. An access at or above its block's window
"never reaches the core; the platform routes it elsewhere" (R111). -/
def State.deliver (e : Event) (s : State) : State :=
  if presented e then s.setPending (s.pending ++ [e]) else s

/-- A bus access at a system address, by way of the block that holds it. -/
def State.busAccess (b : Block) (write : Bool) (sz : BitVec 2) (addr : Nat) (data : Word) (s : State) : State :=
  match blockOffset b addr with
  | some off => s.deliver (busEvent b write sz off data)
  | none => s

/-- The byte lane of a 32-bit bus word at byte offset `+k`, for `k` from 0 to 3: bits 31:24 at `+0` down to
bits 7:0 at `+3` (R74, R75). No rule depends on the lanes. -/
def busLane (v : Word) (k : Nat) : Byte := v.extractLsb' (24 - 8 * k) 8

end Sys2Proof.Machine
end

