-- ==== Sys2Proof/Machine/Pseudo.lean ====
section
/-! DEFINITION. The pseudo-instructions of spec/30_encoding.md R115, each as the events it stands for. -/

namespace Sys2Proof.Machine

/-- `rd reg.NAME` (R114). -/
def rdReg (r : RegName) : Event := { desc := mkDesc 0 0 2 (regOffset r) }

/-- `wr reg.NAME, v` (R114). -/
def wrReg (r : RegName) (v : Word) : Event := { desc := mkDesc 0 1 2 (regOffset r), data := v }

/-- `fire` (R114). -/
def fireEvent : Event := { desc := mkDesc 2 0 0 1 }

/-- `advance T` (R114). -/
def advanceEvent (t : Nat) : Event := { desc := mkDesc 2 0 0 4, time := t }

/-- `setmode d, w, h, a` (R115). -/
def setmode (d w h a : Word) : List Event :=
  [wrReg .depth d, wrReg .width w, wrReg .height h, wrReg .vaddr a]

/-- `off` (R115). -/
def displayOffEvents : List Event := [wrReg .vaddr 0]

/-- `ack` (R115). -/
def ackEvents : List Event := [wrReg .vblAck 0]

/-- `vbl p` (R115). -/
def vblEvents (p : Word) : List Event := [wrReg .vblPeriod p]

/-- `refresh` in state `s`: the value read back is written again (R115). -/
def refreshEvents (s : State) : List Event := [rdReg .vaddr, wrReg .vaddr s.vaddr]

/-- The loop of `wait`: while the deadline `d` is at or before `T`, time advances to it and the timer fires,
which moves it on by the period `p` (R115). The first argument bounds the number of firings. -/
def waitFirings (p T : Nat) : Nat → Nat → List Event
  | 0, _ => []
  | k + 1, d => if d ≤ T then advanceEvent d :: fireEvent :: waitFirings p T k (d + p) else []

/-- `wait n` in state `s`: every firing whose deadline is at or before `now + n`, each at its own deadline,
then `now + n` itself (R115). A period is at least 1, so there are at most `now + n + 1 - deadline` firings. -/
def waitEvents (n : Nat) (s : State) : List Event :=
  (match s.deadline with
    | some d => waitFirings s.vblPeriod.toNat (s.now + n) (s.now + n + 1 - d) d
    | none => []) ++ [advanceEvent (s.now + n)]

end Sys2Proof.Machine
end

