-- ==== Sys2Proof/Safety.lean ====
section
/-! DEFINITION. The terms claims are stated in: runs, the invariant of the state, and what it means for the
surface to show the frame. -/

namespace Sys2Proof.Machine

/-- `k` steps, stopping at the first refusal (R308: a run is a finite prefix of the event order). -/
def runSteps : Nat → State → Host.Outcome State Fault Refusal
  | 0, s => .next s
  | k + 1, s =>
    match step s with
    | .next t => runSteps k t
    | .fault r => .fault r
    | .refused r => .refused r

/-- The instructions of a list one after the other, stopping at the first refusal. -/
def execAll : List Instr → State → Host.Outcome State Fault Refusal
  | [], s => .next s
  | i :: is, s =>
    match exec i s with
    | .next t => execAll is t
    | .fault r => .fault r
    | .refused r => .refused r

/-- The firings in a list of instructions. -/
def countFire : List Instr → Nat
  | [] => 0
  | .fire :: is => countFire is + 1
  | _ :: is => countFire is

/-- The latch holds a legal mode: the ranges of its fields, its stride and its routine (R39). -/
structure ActiveMode.Legal (m : ActiveMode) : Prop where
  depth : m.depth = 1 ∨ m.depth = 2 ∨ m.depth = 4 ∨ m.depth = 8
  width_group : m.width % 16 = 0
  width_range : 320 ≤ m.width ∧ m.width ≤ 2048
  height_range : 1 ≤ m.height ∧ m.height ≤ 2048
  base_nonzero : m.base ≠ 0
  base_even : m.base.toNat % 2 = 0
  stride : m.stride = m.width * m.depth / 8
  routine : routineDepth m.decode = m.depth

/-- The latch invariant: a legal mode anchored at `VADDR` while the display is on, and `VADDR` 0 while it is
off (R39, R40). -/
def LatchInv (s : State) : Prop :=
  (∀ m, s.act = some m → m.Legal ∧ m.base = s.vaddr) ∧ (s.act = none → s.vaddr = 0)

/-- The timer invariant: Armed exactly when the period is not 0 (R45), a stored period above the threshold
(R32), and no armed deadline in the past (R263). -/
def TimerInv (s : State) : Prop :=
  (s.deadline = none ↔ s.vblPeriod = 0) ∧
    (s.vblPeriod = 0 ∨ Config.vblMinNs.val < s.vblPeriod.toNat) ∧
    ∀ d, s.deadline = some d → s.now ≤ d

/-- The canonical forms of system memory, the dirty log and the drawn part of the surface. -/
def DataInv (s : State) : Prop :=
  Memory.wf s.mem = true ∧ dirtyWf s.dirty = true ∧ surfaceWf s.surfW s.surfH s.surf = true

/-- The surface has the latched size, or the next pass with the display on redraws everything (R228, R231). -/
def SizeInv (s : State) : Prop :=
  ∀ m, s.act = some m → s.fullRedraw = false → s.surfW = m.width ∧ s.surfH = m.height

/-- The invariant of the machine. -/
structure Inv (s : State) : Prop where
  latch : LatchInv s
  timer : TimerInv s
  data : DataInv s
  size : SizeInv s

/-- The palette index of column `x` of a scanline of depth `d` that starts at `a`: bit `p` is bit
`15 - x % 16` of plane `p`'s word in group `x / 16` (R190, R200). -/
def pixelIndex (s : State) (d a x : Nat) : Nat :=
  ((List.range d).map fun p =>
    ((s.memRead (a + 2 * (x / 16 * d + p)) 2).testBit (15 - x % 16)).toNat <<< p).sum

/-- The pixel that scanline `y` of mode `m` decodes to at column `x`, with the bytes of system memory and the
palette of state `s` (R190, R191). -/
def framePixel (s : State) (m : ActiveMode) (x y : Nat) : Color :=
  s.palRead (pixelIndex s m.depth (m.rowStart y) x)

/-- A logged byte lies in scanline `y` (R225). -/
def RowLogged (s : State) (m : ActiveMode) (y : Nat) : Prop :=
  ∃ b ∈ s.dirty, m.rowStart y ≤ b ∧ b < m.rowStart (y + 1)

/-- Scanline `y` is redrawn by a pass that starts in state `s` (R223, R225). -/
def RowDirty (s : State) (m : ActiveMode) (y : Nat) : Prop := s.fullRedraw = true ∨ RowLogged s m y

/-- With the display on and no full redraw due, every scanline with no logged byte shows the frame (R89). -/
def SurfaceShowsFrame (s : State) : Prop :=
  ∀ m, s.act = some m → s.fullRedraw = false → ∀ y, y < m.height → ¬ RowLogged s m y →
    ∀ x, x < m.width → s.pixel x y = some (framePixel s m x y)

/-- An instruction after which a completed pass need not be repeated: no `VADDR` write, and no guest write of a
byte of the frame of mode `m` (R227). -/
def leavesFrame (m : ActiveMode) : Instr → Bool
  | .wrVaddr _ => false
  | .memw a _ bs => decide (a + bs.length < m.base.toNat) || decide (m.frameEnd ≤ a)
  | _ => true

/-- An instruction that neither sets the period nor resets the device: the timer stays as it was armed (R264). -/
def keepsTimerArmed : Instr → Bool
  | .wrVblPeriod _ => false
  | .reset => false
  | _ => true

/-- An instruction that does not lower the interrupt line (R262). -/
def keepsLine : Instr → Bool
  | .wrVblAck _ => false
  | .reset => false
  | _ => true

/-- The instruction `i` draws a scanline of depth `d` (R190 to R195, R199, R200): it completes, changes the
drawn part of the surface alone, gives column `x` of row `y` the palette entry of its index for each of its `w`
columns that the surface has, and leaves every other pixel as it was. -/
def DrawsScanline (d : Nat) (i : Nat → Nat → Nat → Instr) : Prop :=
  ∀ (s : State) (a y w : Nat), w % 16 = 0 →
    ∃ px : Surface, exec (i a y w) s = .next { s with surf := px } ∧
      (∀ x, x < w → x < s.surfW → y < s.surfH →
        State.pixel { s with surf := px } x y = some (s.palRead (pixelIndex s d a x))) ∧
      (∀ x z, z ≠ y ∨ w ≤ x → State.pixel { s with surf := px } x z = s.pixel x z)

end Sys2Proof.Machine
end

