-- ==== Sys2Proof/Certificates/Slice0/Obligations.lean ====
section
/-! DEFINITION. The statements for the provers. Where a value of Config appears (the threshold, the palettes,
the oracle, the windows) the statement holds for every value it may take. -/

open Sys2Proof Sys2Proof.Machine

/-! ## Encoding -/

/-- R107, R109: for every well-formed instruction that has a descriptor, decoding its encoding gives it back,
every operand at every value. -/
def Obligations.DecodeOfEncodeIsTheInstruction : Prop :=
  ∀ (i : Instr) (e : Event), wellFormed i = true → encode i = some e → decode e = i

/-- R107: every descriptor decodes to a well-formed instruction, whose own encoding has that descriptor; so
each instruction has one descriptor and no bit of one is dropped. -/
def Obligations.EncodeOfDecodeIsTheDescriptor : Prop :=
  ∀ e : Event, wellFormed (decode e) = true ∧
    ∃ e' : Event, encode (decode e) = some e' ∧ e'.desc = e.desc

/-- R107, R108: the decoder gives the first row of the opcode map that the descriptor hits, the rows tried in
increasing priority. -/
def Obligations.DecodeSelectsTheOpcodeMapRow : Prop :=
  ∀ e : Event, (selectRow e.desc).map OpcodeRow.name = some (mnemonic (decode e))

/-- R108: two rows of one priority never hit the same descriptor. -/
def Obligations.RowsOfOnePriorityNeverOverlap : Prop :=
  ∀ r ∈ opcodeMap, ∀ q ∈ opcodeMap, ∀ d : Word,
    r.hits d = true → q.hits d = true → r.priority = q.priority → r = q

/-- R103, R105, R107 on words written out from the tables (spec/95_test_vectors.md L2.1). The register offsets are
the spec's own decision D1 and the descriptors D22 (log entry 18); that `decodeTableWord` takes every operand as 0 is
the model's (log entry 23). -/
def Obligations.WrittenOutDescriptorsDecode : Prop :=
  decodeTableWord 32 0x10000000 = some .rdVblAck ∧
  decodeTableWord 32 0x30000014 = some (.wrVaddr 0) ∧
  decodeTableWord 32 0x10000018 = some (.rdRegOor 0x18) ∧
  decodeTableWord 32 0x30000017 = some (.wrRegMisaligned 0x17 0) ∧
  decodeTableWord 32 0x08000002 = some (.rdRegBadsize 1 2) ∧
  decodeTableWord 32 0x700003FC = some (.palWrite 255 0) ∧
  decodeTableWord 32 0x50000400 = some (.palReadOor 0x400) ∧
  decodeTableWord 32 0x80000004 = some (.advance 0) ∧
  decodeTableWord 32 0xA0000000 = some (.refuse 0xA0000000)

/-- R113: the dispatch table, keyed by the depth: each routine on its own depth value, and nothing on any other (what
a mode of another depth then does is log entry 16). The last clause, that the depth value listed for a routine is
dispatched back to it, is about the model's `encodeDispatch` (log entry 2). -/
def Obligations.DispatchIsKeyedByDepth : Prop :=
  dispatch 1 = some .decode1 ∧ dispatch 2 = some .decode2 ∧ dispatch 4 = some .decode4 ∧
  dispatch 8 = some .decode8 ∧
  (∀ d : Word, d ≠ 1 → d ≠ 2 → d ≠ 4 → d ≠ 8 → dispatch d = none) ∧
  (∀ (r : Routine) (a y w : Nat), (encodeDispatch (routineInstr r a y w)).bind dispatch = some r)

/-! ## A step -/

/-- The model's sequencer queue (log entry 1): the first pending event runs as the instruction it decodes to, in
the state without that event; with no event pending a step changes nothing. -/
def Obligations.StepRunsTheDecodedEvent : Prop :=
  (∀ (s : State) (e : Event) (rest : List Event) (i : Instr), s.pending = e :: rest → decode e = i →
    wellFormed i = true → step s = exec i { s with pending := rest }) ∧
  (∀ s : State, s.pending = [] → step s = .next s)

/-- R109, R268: a step refuses only a reserved descriptor, a `FIRE` that is not enabled and an `ADVANCE` that is
not enabled, each under its own name, and it never faults (R290). That these are the stops is log entry 14; reserved
descriptors are the spec's own decision D22 and the enabling of `ADVANCE` is D17; the queue of pending events is the
model's (log entry 1). -/
def Obligations.StepStopsOnlyWhereTheRulesSay : Prop :=
  ∀ (s : State) (e : Event) (rest : List Event), s.pending = e :: rest →
    (∃ t, step s = .next t) ∨
    (descReserved e.desc = true ∧ step s = .refused (.reservedDescriptor e.desc)) ∨
    (e.desc = 0x80000001 ∧ s.deadline ≠ some s.now ∧ step s = .refused .fireNotEnabled) ∨
    (e.desc = 0x80000004 ∧ (e.time < s.now ∨ ∃ d, s.deadline = some d ∧ d < e.time) ∧
      step s = .refused .advanceNotEnabled)

/-- R77, R78, R110 (the width is the spec's own decision D3, the palette's alignment D4): a bus access that is misaligned or not 32 bits wide is a no-op: a read returns 0 and changes
nothing else, a write changes nothing. -/
def Obligations.MisalignedOrWrongWidthAccessIsNoOp : Prop :=
  ∀ (s : State) (e : Event) (rest : List Event), s.pending = e :: rest →
    descRsv e.desc = 0 → (descCls e.desc = 0 ∨ descCls e.desc = 1) →
    (descSz e.desc ≠ 2 ∨ (descOff e.desc).toNat % 4 ≠ 0) →
    (descW e.desc = 0 → step s = .next { s with pending := rest, rdata := s.rdata ++ [0] }) ∧
    (descW e.desc = 1 → step s = .next { s with pending := rest })

/-- R109 (the spec's own decision D22): a reserved descriptor decodes to `REFUSE`, which the model refuses by name, whatever the state. -/
def Obligations.ReservedDescriptorIsRefused : Prop :=
  ∀ (e : Event) (s : State),
    (descCls e.desc = 3 ∨ descRsv e.desc ≠ 0 ∨
      (descCls e.desc = 2 ∧ (descW e.desc = 1 ∨ descSz e.desc ≠ 0 ∨ 4 < (descOff e.desc).toNat))) →
    decode e = .refuse e.desc ∧ exec (.refuse e.desc) s = .refused (.reservedDescriptor e.desc)

/-- R111 (the spec's own decision D2; that the model tests the window where an event is delivered is log entry 3):
an access at or above its block's window never reaches the sequencer's order; every other event comes
last in it. That a descriptor which is reserved too (R109) is dropped like any other past the window is the model's
choice (log entry 24). (A window may be as wide as the offset field, R10, so the statement has no premise that an offset lies
past it.) -/
def Obligations.AccessOutsideTheWindowIsNotDelivered : Prop :=
  ∀ (s : State) (e : Event),
    s.deliver e =
      if (descCls e.desc = 0 ∧ Config.regWindow ≤ (descOff e.desc).toNat) ∨
          (descCls e.desc = 1 ∧ Config.palWindow ≤ (descOff e.desc).toNat)
      then s
      else { s with pending := s.pending ++ [e] }

/-! ## Register bank -/

/-- R130 (the spec's own decision D6: the source does not say what this read returns): a read of the strobe
`VBL_ACK` completes, returns 0 and changes nothing else; it lowers no line and leaves the timer alone. -/
def Obligations.VblAckReadReturnsZero : Prop :=
  ∀ (s : State) (e : Event), (e.desc = 0x10000000 → decode e = .rdVblAck) ∧
    exec .rdVblAck s = .next { s with rdata := s.rdata ++ [0] }

/-- R132, R134, R136, R138, R140: each read of a stored register completes, returns the stored value and changes
nothing else. What a register holds after a rejected, an accepted or a disarming write, of which the rules' corner
cases also speak, is said by `VaddrWriteValidatesTheMode` and `VblPeriodWriteArmsOrDisarms`. -/
def Obligations.RegisterReadsReturnTheStoredValue : Prop :=
  ∀ (s : State) (e : Event),
    (e.desc = 0x10000004 → decode e = .rdVblPeriod) ∧
    (e.desc = 0x10000008 → decode e = .rdDepth) ∧
    (e.desc = 0x1000000C → decode e = .rdWidth) ∧
    (e.desc = 0x10000010 → decode e = .rdHeight) ∧
    (e.desc = 0x10000014 → decode e = .rdVaddr) ∧
    exec .rdVblPeriod s = .next { s with rdata := s.rdata ++ [s.vblPeriod] } ∧
    exec .rdDepth s = .next { s with rdata := s.rdata ++ [s.depth] } ∧
    exec .rdWidth s = .next { s with rdata := s.rdata ++ [s.width] } ∧
    exec .rdHeight s = .next { s with rdata := s.rdata ++ [s.height] } ∧
    exec .rdVaddr s = .next { s with rdata := s.rdata ++ [s.vaddr] }

/-- R135, R137, R139: a write of `DEPTH`, `WIDTH` or `HEIGHT` stores any 32-bit value verbatim and changes
nothing else. That the active mode stays too is the spec's own decision D7 (log entry 18). -/
def Obligations.GeometryWritesStoreVerbatim : Prop :=
  ∀ (s : State) (e : Event) (v : Word),
    (e.desc = 0x30000008 → decode e = .wrDepth e.data) ∧
    (e.desc = 0x3000000C → decode e = .wrWidth e.data) ∧
    (e.desc = 0x30000010 → decode e = .wrHeight e.data) ∧
    exec (.wrDepth v) s = .next { s with depth := v } ∧
    exec (.wrWidth v) s = .next { s with width := v } ∧
    exec (.wrHeight v) s = .next { s with height := v }

/-- R131: a `VBL_ACK` write of any value lowers the line and changes nothing else. -/
def Obligations.VblAckWriteLowersTheLine : Prop :=
  ∀ (s : State) (e : Event) (v : Word),
    (e.desc = 0x30000000 → decode e = .wrVblAck e.data) ∧
    exec (.wrVblAck v) s = .next { s with irq := false }

/-- R133: above the threshold the period is stored and the timer armed for `now + p`; at or below it the period
is 0 and the timer Idle; nothing else changes. -/
def Obligations.VblPeriodWriteArmsOrDisarms : Prop :=
  ∀ (s : State) (e : Event) (p : Word),
    (e.desc = 0x30000004 → decode e = .wrVblPeriod e.data) ∧
    (Config.vblMinNs.val < p.toNat →
      exec (.wrVblPeriod p) s = .next { s with vblPeriod := p, deadline := some (s.now + p.toNat) }) ∧
    (p.toNat ≤ Config.vblMinNs.val →
      exec (.wrVblPeriod p) s = .next { s with vblPeriod := 0, deadline := none })

/-- R141, R142 (that zero keeps the geometry is the spec's own decision D8, and that only acceptance touches the
full-redraw flag is D29): the three outcomes of a `VADDR` write. Zero turns the display off and keeps the geometry; a
valid configuration is latched with the routine of its depth and sets the full-redraw flag; any other zeroes
the stored geometry and `VADDR` and turns the display off. Nothing else changes. -/
def Obligations.VaddrWriteValidatesTheMode : Prop :=
  ∀ (s : State) (e : Event) (v : Word),
    (e.desc = 0x30000014 → decode e = .wrVaddr e.data) ∧
    (v = 0 → exec (.wrVaddr v) s = .next { s with vaddr := 0, act := none }) ∧
    (∀ r : Routine, v ≠ 0 → v.toNat % 2 = 0 → dispatch s.depth = some r →
      s.width.toNat % 16 = 0 → 320 ≤ s.width.toNat → s.width.toNat ≤ 2048 →
      1 ≤ s.height.toNat → s.height.toNat ≤ 2048 →
      exec (.wrVaddr v) s = .next { s with
        vaddr := v
        act := some ⟨s.depth.toNat, s.width.toNat, s.height.toNat, v, s.width.toNat * s.depth.toNat / 8, r⟩
        fullRedraw := true }) ∧
    (v ≠ 0 →
      (v.toNat % 2 ≠ 0 ∨ (s.depth ≠ 1 ∧ s.depth ≠ 2 ∧ s.depth ≠ 4 ∧ s.depth ≠ 8) ∨
        s.width.toNat % 16 ≠ 0 ∨ s.width.toNat < 320 ∨ 2048 < s.width.toNat ∨
        s.height.toNat < 1 ∨ 2048 < s.height.toNat) →
      exec (.wrVaddr v) s = .next { s with depth := 0, width := 0, height := 0, vaddr := 0, act := none })

/-- R36: after every `VADDR` write, whatever the state before it, either `VADDR` is 0 or it is even and the
stored geometry is legal. -/
def Obligations.VaddrWriteLeavesOffOrLegal : Prop :=
  ∀ (s t : State) (v : Word), exec (.wrVaddr v) s = .next t →
    t.vaddr = 0 ∨
      (t.vaddr.toNat % 2 = 0 ∧ (t.depth = 1 ∨ t.depth = 2 ∨ t.depth = 4 ∨ t.depth = 8) ∧
        t.width.toNat % 16 = 0 ∧ 320 ≤ t.width.toNat ∧ t.width.toNat ≤ 2048 ∧
        1 ≤ t.height.toNat ∧ t.height.toNat ≤ 2048)

/-- R143 to R146: an aligned access past the registers, and a misaligned access, at every offset: a read returns
0 and changes nothing else, a write changes nothing. -/
def Obligations.RegisterAccessesThatReachNoRegister : Prop :=
  ∀ (s : State) (e : Event) (o : Offset) (v : Word),
    (e.desc = 0x10000000 ||| o.setWidth 32 → o.toNat % 4 = 0 → 0x18 ≤ o.toNat → decode e = .rdRegOor o) ∧
    (e.desc = 0x30000000 ||| o.setWidth 32 → o.toNat % 4 = 0 → 0x18 ≤ o.toNat →
      decode e = .wrRegOor o e.data) ∧
    (e.desc = 0x10000000 ||| o.setWidth 32 → o.toNat % 4 ≠ 0 → decode e = .rdRegMisaligned o) ∧
    (e.desc = 0x30000000 ||| o.setWidth 32 → o.toNat % 4 ≠ 0 → decode e = .wrRegMisaligned o e.data) ∧
    exec (.rdRegOor o) s = .next { s with rdata := s.rdata ++ [0] } ∧
    exec (.wrRegOor o v) s = .next s ∧
    exec (.rdRegMisaligned o) s = .next { s with rdata := s.rdata ++ [0] } ∧
    exec (.wrRegMisaligned o v) s = .next s

/-- R147, R148, R177, R178 (the spec's own decision D3): an access of width 8, 16 or 64 bits to either block, at any offset: a read returns 0
and changes nothing else, a write changes nothing. -/
def Obligations.WrongWidthAccessesAreIgnored : Prop :=
  ∀ (s : State) (e : Event) (z : BitVec 2) (o : Offset) (v : Word), z ≠ 2 →
    (e.desc = mkDesc 0 0 z o → decode e = .rdRegBadsize z o) ∧
    (e.desc = mkDesc 0 1 z o → decode e = .wrRegBadsize z o e.data) ∧
    (e.desc = mkDesc 1 0 z o → decode e = .palReadBadsize z o) ∧
    (e.desc = mkDesc 1 1 z o → decode e = .palWriteBadsize z o e.data) ∧
    exec (.rdRegBadsize z o) s = .next { s with rdata := s.rdata ++ [0] } ∧
    exec (.wrRegBadsize z o v) s = .next s ∧
    exec (.palReadBadsize z o) s = .next { s with rdata := s.rdata ++ [0] } ∧
    exec (.palWriteBadsize z o v) s = .next s

/-- R82: repeating a write of the same value to `DEPTH`, `WIDTH`, `HEIGHT`, `VBL_ACK` or a palette entry changes
nothing more; repeating an accepted `VADDR` write sets the full-redraw flag again, even after a pass cleared it;
repeating an arming `VBL_PERIOD` write at a later time moves the deadline to that time plus the period. -/
def Obligations.RepeatedWrites : Prop :=
  (∀ (s t : State) (v : Word) (ix : BitVec 8) (i : Instr),
    (i = .wrDepth v ∨ i = .wrWidth v ∨ i = .wrHeight v ∨ i = .wrVblAck v ∨ i = .palWrite ix v) →
    exec i s = .next t → exec i t = .next t) ∧
  (∀ (s t : State) (v : Word), exec (.wrVaddr v) s = .next t → t.act ≠ none →
    exec (.wrVaddr v) { t with fullRedraw := false } = .next { t with fullRedraw := true }) ∧
  (∀ (s t : State) (p : Word) (u : Nat), Config.vblMinNs.val < p.toNat → exec (.wrVblPeriod p) s = .next t →
    exec (.wrVblPeriod p) { t with now := u } = .next { t with now := u, deadline := some (u + p.toNat) })

/-! ## Palette -/

/-- R170, R172 (256 entries at every depth: the spec's own decision D5): a palette read returns the whole entry and changes nothing else; a palette write stores the whole
value in its entry and changes no other entry and nothing else (no flag, no notification, R180). -/
def Obligations.PaletteReadsAndWrites : Prop :=
  ∀ (s : State) (e : Event) (o : Offset) (ix : BitVec 8) (v : Word),
    (e.desc = 0x50000000 ||| o.setWidth 32 → o.toNat % 4 = 0 → o.toNat ≤ 0x3FC →
      decode e = .palRead (BitVec.ofNat 8 (o.toNat / 4))) ∧
    (e.desc = 0x70000000 ||| o.setWidth 32 → o.toNat % 4 = 0 → o.toNat ≤ 0x3FC →
      decode e = .palWrite (BitVec.ofNat 8 (o.toNat / 4)) e.data) ∧
    exec (.palRead ix) s = .next { s with rdata := s.rdata ++ [s.pal[ix.toNat]'ix.isLt] } ∧
    ∃ p : Vector Color 256, exec (.palWrite ix v) s = .next { s with pal := p } ∧
      ∀ j : BitVec 8, p[j.toNat]'j.isLt = if j = ix then v else s.pal[j.toNat]'j.isLt

/-- R171, R173, R175, R176 (for the misaligned ones the spec's own decision D4): an aligned palette access past the last entry, and a misaligned one: a read returns
0 and changes nothing else, a write changes nothing. -/
def Obligations.PaletteAccessesThatReachNoEntry : Prop :=
  ∀ (s : State) (e : Event) (o : Offset) (v : Word),
    (e.desc = 0x50000000 ||| o.setWidth 32 → o.toNat % 4 = 0 → 0x400 ≤ o.toNat → decode e = .palReadOor o) ∧
    (e.desc = 0x70000000 ||| o.setWidth 32 → o.toNat % 4 = 0 → 0x400 ≤ o.toNat →
      decode e = .palWriteOor o e.data) ∧
    (e.desc = 0x50000000 ||| o.setWidth 32 → o.toNat % 4 ≠ 0 → decode e = .palReadMisaligned o) ∧
    (e.desc = 0x70000000 ||| o.setWidth 32 → o.toNat % 4 ≠ 0 → decode e = .palWriteMisaligned o e.data) ∧
    exec (.palReadOor o) s = .next { s with rdata := s.rdata ++ [0] } ∧
    exec (.palWriteOor o v) s = .next s ∧
    exec (.palReadMisaligned o) s = .next { s with rdata := s.rdata ++ [0] } ∧
    exec (.palWriteMisaligned o v) s = .next s

/-- R181: a pass at depth `d` does not depend on the palette entries at or above `2^d`, and leaves them as they
are. -/
def Obligations.RedrawIgnoresUnusedPaletteEntries : Prop :=
  ∀ (s t : State) (m : ActiveMode) (p : Vector Color 256), s.act = some m → m.Legal →
    (∀ j, j < 2 ^ m.depth → p[j]? = s.pal[j]?) → exec .redraw s = .next t →
    exec .redraw { s with pal := p } = .next { t with pal := p }

/-! ## Planar decoder -/

/-- R190 to R195, R199, R200: each of the four routines completes and draws its scanline, at its own number of
planes. -/
def Obligations.RoutinesDrawTheirScanline : Prop :=
  DrawsScanline 1 .decode1 ∧ DrawsScanline 2 .decode2 ∧ DrawsScanline 4 .decode4 ∧ DrawsScanline 8 .decode8

/-- R198: at every depth a scanline of zero plane bits decodes to `pal[0]` at every pixel, and one of one bits
to `pal[2^d - 1]`. -/
def Obligations.AllZeroAndAllOnePlanes : Prop :=
  ∀ (r : Routine) (s t : State) (a y w : Nat), w % 16 = 0 → exec (routineInstr r a y w) s = .next t →
    ((∀ c, a ≤ c → c < a + w * routineDepth r / 8 → Memory.read s.mem c = 0x00) →
      ∀ x, x < w → x < s.surfW → y < s.surfH → t.pixel x y = some (s.palRead 0)) ∧
    ((∀ c, a ≤ c → c < a + w * routineDepth r / 8 → Memory.read s.mem c = 0xFF) →
      ∀ x, x < w → x < s.surfW → y < s.surfH → t.pixel x y = some (s.palRead (2 ^ routineDepth r - 1)))

/-- R73: a 16-bit read takes the byte at the lower address as bits 15:8 and the following byte as bits 7:0. -/
def Obligations.PlaneWordsAreBigEndian : Prop :=
  ∀ (s : State) (a k : Nat), k < 8 →
    s.memRead a 2 = 256 * (Memory.read s.mem a).toNat + (Memory.read s.mem (a + 1)).toNat ∧
    (s.memRead a 2).testBit (k + 8) = (Memory.read s.mem a).getLsbD k ∧
    (s.memRead a 2).testBit k = (Memory.read s.mem (a + 1)).getLsbD k

/-! ## Dirty log and redraw -/

/-- R220 (the event is the spec's own decision D32, and that a byte is logged whether or not its value changed is
D31): a guest write completes, gives each of its addresses its byte, adds exactly its addresses to the dirty
log, and changes nothing else. -/
def Obligations.GuestWriteStoresAndLogsItsBytes : Prop :=
  ∀ (s : State) (e : Event) (a : Nat) (b : Byte) (bs : List Byte), Memory.wf s.mem = true →
    (e.desc = 0x80000003 → decode e = .memw e.addr e.byte0 e.bytes) ∧
    ∃ (mem : Memory) (dirty : List Nat),
      exec (.memw a b bs) s = .next { s with mem := mem, dirty := dirty } ∧
      (∀ k : Nat, (h : k < (b :: bs).length) → Memory.read mem (a + k) = (b :: bs)[k]) ∧
      (∀ c, c < a ∨ a + (b :: bs).length ≤ c → Memory.read mem c = Memory.read s.mem c) ∧
      (∀ c, c ∈ dirty ↔ c ∈ s.dirty ∨ (a ≤ c ∧ c < a + (b :: bs).length))

/-- R223 step 1, R224, R231: with the display off a pass completes and does nothing at all. -/
def Obligations.RedrawWithDisplayOffDoesNothing : Prop :=
  ∀ (s : State) (e : Event), (e.desc = 0x80000000 → decode e = .redraw) ∧
    (s.act = none → exec .redraw s = .next s)

/-- R222, R224, R228: with the display on a pass completes; the surface has the latched size; the log loses
exactly the addresses of the frame; the full-redraw flag is cleared; beside the surface's pixels and the
notification stream nothing else changes. -/
def Obligations.RedrawTakesSnapshotAndClearsFlag : Prop :=
  ∀ (s : State) (m : ActiveMode), s.act = some m →
    ∃ (px : Surface) (notes : List Notification) (dirty : List Nat),
      exec .redraw s = .next { s with
        surfW := m.width, surfH := m.height, surf := px, notes := notes, dirty := dirty, fullRedraw := false } ∧
      ∀ c, c ∈ dirty ↔
        c ∈ s.dirty ∧ ¬(m.base.toNat ≤ c ∧ c < m.base.toNat + m.height * m.stride)

/-- R223, R190: a pass draws every dirty scanline from system memory and the palette, and leaves the pixels of
the other scanlines as they were (where it does not resize the surface). -/
def Obligations.RedrawDrawsExactlyTheDirtyRows : Prop :=
  ∀ (s t : State) (m : ActiveMode) (x y : Nat), s.act = some m → m.Legal → x < m.width → y < m.height →
    exec .redraw s = .next t →
    (RowDirty s m y → t.pixel x y = some (framePixel s m x y)) ∧
    (¬ RowDirty s m y → s.surfW = m.width → s.surfH = m.height → t.pixel x y = s.pixel x y)

/-- R226, R228, R229, R230 (when a resize is sent and that an update covers whole rows are the spec's own decisions
D14 and D15): a pass sends at most one resize, first, exactly if the size differs, and then one
update of whole rows for each maximal run of dirty scanlines, in increasing order, and nothing else. -/
def Obligations.RedrawCoalescesMaximalRuns : Prop :=
  ∀ (s t : State) (m : ActiveMode), s.act = some m → exec .redraw s = .next t →
    ∃ runs : List (Nat × Nat),
      t.notes = s.notes ++
        (if s.surfW = m.width ∧ s.surfH = m.height then [] else [Notification.resize m.width m.height]) ++
        runs.map (fun r => Notification.update 0 r.1 m.width (r.2 - r.1)) ∧
      (∀ r ∈ runs, r.1 < r.2 ∧ r.2 ≤ m.height ∧
        (∀ y, r.1 ≤ y → y < r.2 → RowDirty s m y) ∧
        (∀ y, y + 1 = r.1 → ¬ RowDirty s m y) ∧
        (r.2 < m.height → ¬ RowDirty s m r.2)) ∧
      (∀ y, y < m.height → RowDirty s m y → ∃ r ∈ runs, r.1 ≤ y ∧ y < r.2) ∧
      runs.Pairwise (fun p q => p.2 < q.1)

/-- R227: after a completed pass with the display on, any instructions but a `VADDR` write and a guest write into
the frame may run, and the next pass changes nothing: it decodes nothing and emits nothing. -/
def Obligations.SecondPassIsSilent : Prop :=
  ∀ (s t u : State) (m : ActiveMode) (between : List Instr), s.act = some m → exec .redraw s = .next t →
    (∀ i ∈ between, leavesFrame m i = true) → execAll between t = .next u →
    exec .redraw u = .next u

/-- R72, R199: a pass depends on system memory only through the bytes of the frame, and leaves all of it as it
is. -/
def Obligations.RedrawReadsOnlyTheFrame : Prop :=
  ∀ (s t : State) (m : ActiveMode) (mem : Memory), s.act = some m → m.Legal →
    (∀ c, m.base.toNat ≤ c → c < m.base.toNat + m.height * m.stride →
      Memory.read mem c = Memory.read s.mem c) →
    exec .redraw s = .next t → exec .redraw { s with mem := mem } = .next { t with mem := mem }

/-- R89: that every clean scanline shows the frame is kept by every step of a state with the invariant, but for
a step that runs a palette write (R180: that redraws nothing). -/
def Obligations.StepKeepsSurfaceShowingFrame : Prop :=
  ∀ s t : State, Inv s → SurfaceShowsFrame s → step s = .next t →
    (∀ e rest ix v, s.pending = e :: rest → decode e ≠ .palWrite ix v) → SurfaceShowsFrame t

/-! ## Timer and virtual time -/

/-- R260: a firing completes exactly while the timer is Armed and `now` is its deadline: it raises the line and
moves the deadline on by the period; else it is refused. With the timer's invariant the new deadline is past
`now + VBL_MIN_NS`; R260 marks that sentence ("The new deadline is at least `now + VBL_MIN_NS + 1`") as the spec's
own derivation from R32. -/
def Obligations.FireRaisesTheLineAtTheDeadline : Prop :=
  ∀ (s : State) (e : Event), (e.desc = 0x80000001 → decode e = .fire) ∧
    (s.deadline = some s.now →
      exec .fire s = .next { s with irq := true, deadline := some (s.now + s.vblPeriod.toNat) }) ∧
    (s.deadline ≠ some s.now → exec .fire s = .refused .fireNotEnabled) ∧
    (TimerInv s → s.deadline = some s.now →
      ∃ t d, exec .fire s = .next t ∧ t.deadline = some d ∧ s.now + Config.vblMinNs.val + 1 ≤ d)

/-- R263 (the enabling condition is the spec's own decision D17): time advances exactly to a time that is not past and does not pass an armed deadline. -/
def Obligations.AdvanceMovesTimeUpToTheDeadline : Prop :=
  ∀ (s : State) (e : Event) (t : Nat), (e.desc = 0x80000004 → decode e = .advance e.time) ∧
    (s.now ≤ t → (∀ d, s.deadline = some d → t ≤ d) → exec (.advance t) s = .next { s with now := t }) ∧
    (t < s.now ∨ (∃ d, s.deadline = some d ∧ d < t) →
      exec (.advance t) s = .refused .advanceNotEnabled)

/-- R264: the firings of a timer that stays armed are drift-free: armed at time `t0` with period `p`, its firing
after `k` others happens at `t0 + (k + 1) * p`, whatever other instructions ran in between. -/
def Obligations.FiringsAreDriftFree : Prop :=
  ∀ (s s1 v w : State) (p : Word) (between : List Instr), Config.vblMinNs.val < p.toNat →
    exec (.wrVblPeriod p) s = .next s1 → (∀ i ∈ between, keepsTimerArmed i = true) →
    execAll between s1 = .next v → exec .fire v = .next w →
    v.now = s.now + (countFire between + 1) * p.toNat ∧
      w.deadline = some (s.now + (countFire between + 2) * p.toNat)

/-- R262: once the line is raised it stays raised over any instructions but a `VBL_ACK` write and a device
reset. -/
def Obligations.LineStaysRaisedUntilAcknowledged : Prop :=
  ∀ (s t : State) (is : List Instr), s.irq = true → (∀ i ∈ is, keepsLine i = true) →
    execAll is s = .next t → t.irq = true

/-- R43, R293: only a firing raises the line, and only a `VBL_ACK` write or a device reset lowers it. -/
def Obligations.LineChangesOnlyByFireAckOrReset : Prop :=
  ∀ (i : Instr) (s t : State), exec i s = .next t →
    (s.irq = false → t.irq = true → i = .fire) ∧
    (s.irq = true → t.irq = false → i = .reset ∨ ∃ v, i = .wrVblAck v)

/-- R267: after a disarming period write no firing is enabled until a later arming write, whatever other
instructions run, further disarming writes among them. -/
def Obligations.DisarmCancelsEveryFiring : Prop :=
  ∀ (s s1 t : State) (p : Word) (is : List Instr), p.toNat ≤ Config.vblMinNs.val →
    exec (.wrVblPeriod p) s = .next s1 →
    (∀ i ∈ is, ∀ q, i = .wrVblPeriod q → q.toNat ≤ Config.vblMinNs.val) → execAll is s1 = .next t →
    exec .fire t = .refused .fireNotEnabled

/-- R46, R340: virtual time never decreases, and only `ADVANCE` moves it. -/
def Obligations.OnlyAdvanceMovesTime : Prop :=
  ∀ (i : Instr) (s t : State), exec i s = .next t →
    s.now ≤ t.now ∧ (t.now ≠ s.now → i = .advance t.now)

/-- R263, R269: while the timer stays armed, a run with no firing cannot pass its deadline. It follows from the
enabling condition of `ADVANCE`, the spec's own decision D17 (log entry 18); R269 is the spec's own derivation. -/
def Obligations.TimeCannotPassADeadlineUnfired : Prop :=
  ∀ (s t : State) (d : Nat) (is : List Instr), s.deadline = some d → s.now ≤ d →
    (∀ i ∈ is, keepsTimerArmed i = true ∧ i ≠ .fire) → execAll is s = .next t →
    t.now ≤ d ∧ t.deadline = some d

/-- R266: at `now = deadline` an acknowledge or a period write may come before or after the firing, and the order
shows as the rule's table says. -/
def Obligations.OrderAtADeadlineShows : Prop :=
  ∀ (s : State) (v p q : Word), s.deadline = some s.now → Config.vblMinNs.val < p.toNat →
    q.toNat ≤ Config.vblMinNs.val →
    (∃ t, execAll [.fire, .wrVblAck v] s = .next t ∧ t.irq = false) ∧
    (∃ t, execAll [.wrVblAck v, .fire] s = .next t ∧ t.irq = true) ∧
    (∃ t, execAll [.fire, .wrVblPeriod p] s = .next t ∧ t.irq = true ∧
      t.deadline = some (s.now + p.toNat)) ∧
    (∃ t, exec (.wrVblPeriod p) s = .next t ∧ t.irq = s.irq ∧ t.deadline = some (s.now + p.toNat) ∧
      exec .fire t = .refused .fireNotEnabled) ∧
    (∃ t, execAll [.fire, .wrVblPeriod q] s = .next t ∧ t.irq = true ∧ t.deadline = none) ∧
    (∃ t, exec (.wrVblPeriod q) s = .next t ∧ t.irq = s.irq ∧ t.deadline = none ∧
      exec .fire t = .refused .fireNotEnabled)

/-- R115 `wait n`: from an armed timer its events all run; they end at `now + n` with the rest of the events
still pending, after a firing at each deadline at or before that time, and nothing else changes. -/
def Obligations.WaitRunsEveryFiringUpToItsTime : Prop :=
  ∀ (s : State) (n d : Nat) (rest : List Event), s.deadline = some d → s.now ≤ d → s.vblPeriod ≠ 0 →
    s.pending = waitEvents n s ++ rest →
    ∃ k : Nat,
      runSteps (waitEvents n s).length s = .next { s with
        now := s.now + n
        irq := s.irq || decide (0 < k)
        deadline := some (d + k * s.vblPeriod.toNat)
        pending := rest } ∧
      (waitEvents n s).length = 2 * k + 1 ∧
      s.now + n < d + k * s.vblPeriod.toNat ∧
      ∀ j, j < k → d + j * s.vblPeriod.toNat ≤ s.now + n

/-! ## Reset and attach -/

/-- R320 (the timer, the line, the flag and what stays are the spec's own decision D13): device reset completes with every register 0, the display off, the default palette, the timer Idle, the
line low and the full-redraw flag clear; nothing else changes. -/
def Obligations.DeviceResetReappliesTheOffState : Prop :=
  ∀ (s : State) (e : Event), (e.desc = 0x80000002 → decode e = .reset) ∧
    exec .reset s = .next { s with
      vblPeriod := 0, depth := 0, width := 0, height := 0, vaddr := 0, act := none
      pal := Config.defaultPalette Config.resetPaletteDepth
      deadline := none, irq := false, fullRedraw := false }

/-- R55, R292: a host with a supported pixel format attaches the device in the all-zero, off state with the
default palette and the initial surface size; a host without one has no device. -/
def Obligations.AttachStartsInTheOffState : Prop :=
  attach false = none ∧
  ∃ s : State, attach true = some s ∧ s = State.reset ∧
    s.vblPeriod = 0 ∧ s.depth = 0 ∧ s.width = 0 ∧ s.height = 0 ∧ s.vaddr = 0 ∧
    s.act = none ∧ s.fullRedraw = false ∧ s.irq = false ∧ s.armed = false ∧
    s.pal = Config.defaultPalette Config.resetPaletteDepth ∧
    s.surfW = Config.initSurfW ∧ s.surfH = Config.initSurfH

/-! ## Invariants and whole-machine rules -/

/-- R40, R45, R55: the invariant holds right after attach. R40 and R45 are the spec's own derivations; the canonical
forms of memory, dirty log and surface are the model's (log entries 8 and 10) and in no rule. -/
def Obligations.InvariantHoldsAtReset : Prop := Inv State.reset

/-- R32, R39, R40, R45 and the canonical forms: every step of every state that meets the invariant gives a state
that meets it. -/
def Obligations.StepKeepsTheInvariant : Prop :=
  ∀ s t : State, Inv s → step s = .next t → Inv t

/-- R72: the core never writes system memory: every byte reads as before after every instruction but a guest
write, and after a guest write outside its bytes. -/
def Obligations.OnlyGuestWritesChangeSystemMemory : Prop :=
  ∀ (i : Instr) (s t : State), exec i s = .next t →
    ((∀ a b bs, i ≠ .memw a b bs) → ∀ c, Memory.read t.mem c = Memory.read s.mem c) ∧
    (∀ a b bs, i = .memw a b bs → ∀ c, c < a ∨ a + bs.length < c →
      Memory.read t.mem c = Memory.read s.mem c)

/-- R39, R42: the latch is written only by a `VADDR` write and by reset; the full-redraw flag is set only by a
`VADDR` write and cleared only by a pass and by reset. -/
def Obligations.LatchAndFlagWritersAreTheRuled : Prop :=
  ∀ (i : Instr) (s t : State), exec i s = .next t →
    (t.act ≠ s.act → i = .reset ∨ ∃ v, i = .wrVaddr v) ∧
    (s.fullRedraw = false → t.fullRedraw = true → ∃ v, i = .wrVaddr v) ∧
    (s.fullRedraw = true → t.fullRedraw = false → i = .redraw ∨ i = .reset)

/-- R37, R180, R230: only a palette write and reset change the palette, and only a pass sends notifications. -/
def Obligations.PaletteAndStreamWritersAreTheRuled : Prop :=
  ∀ (i : Instr) (s t : State), exec i s = .next t →
    (t.pal ≠ s.pal → i = .reset ∨ ∃ ix v, i = .palWrite ix v) ∧
    (t.notes ≠ s.notes → i = .redraw)

/-- R30, R81: only a register write and reset change a stored register, and a bus read changes nothing but the
stream of returned values. -/
def Obligations.StoredRegisterWritersAreTheRuled : Prop :=
  ∀ (i : Instr) (s t : State), exec i s = .next t →
    (t.vblPeriod ≠ s.vblPeriod → i = .reset ∨ ∃ v, i = .wrVblPeriod v) ∧
    (t.depth ≠ s.depth → i = .reset ∨ (∃ v, i = .wrDepth v) ∨ ∃ v, i = .wrVaddr v) ∧
    (t.width ≠ s.width → i = .reset ∨ (∃ v, i = .wrWidth v) ∨ ∃ v, i = .wrVaddr v) ∧
    (t.height ≠ s.height → i = .reset ∨ (∃ v, i = .wrHeight v) ∨ ∃ v, i = .wrVaddr v) ∧
    (t.vaddr ≠ s.vaddr → i = .reset ∨ ∃ v, i = .wrVaddr v) ∧
    (t.rdata ≠ s.rdata → ∃ v, t = { s with rdata := s.rdata ++ [v] })

/-! ## Pseudo-instructions -/

/-- R115 `setmode`, R323: from any state, the four writes with a legal mode turn the display on in that mode and
ask for a full redraw, and nothing else changes. -/
def Obligations.SetmodeTurnsTheDisplayOn : Prop :=
  ∀ (s : State) (d w h a : Word) (r : Routine) (rest : List Event), s.pending = setmode d w h a ++ rest →
    dispatch d = some r → a ≠ 0 → a.toNat % 2 = 0 → w.toNat % 16 = 0 → 320 ≤ w.toNat → w.toNat ≤ 2048 →
    1 ≤ h.toNat → h.toNat ≤ 2048 →
    runSteps 4 s = .next { s with
      depth := d, width := w, height := h, vaddr := a
      act := some ⟨d.toNat, w.toNat, h.toNat, a, w.toNat * d.toNat / 8, r⟩
      fullRedraw := true, pending := rest }

/-! ## The timer, more -/

/-- R115 `wait n` on an Idle timer: its one event runs, and time ends at `now + n` with the rest of the events still
pending and nothing else changed. The pseudo-instruction is the spec's own decision D23 (log entry 21); the queue of
pending events is the model's (log entry 1). -/
def Obligations.WaitOnAnIdleTimerMovesTimeAlone : Prop :=
  ∀ (s : State) (n : Nat) (rest : List Event), s.deadline = none → s.pending = waitEvents n s ++ rest →
    (waitEvents n s).length = 1 ∧
    runSteps (waitEvents n s).length s = .next { s with now := s.now + n, pending := rest }

/-- R264 step by step (the rule is the spec's own derivation): a timer armed at `t0` with period `p` that has fired
`k` times has the deadline `t0 + (k + 1) * p`; every step keeps that, but for a period write or a reset, with one
more firing counted exactly when the step is a firing, which happens at that deadline. -/
def Obligations.StepKeepsTheDeadlineOnItsGrid : Prop :=
  ∀ (s t : State) (p : Word) (t0 k : Nat), s.vblPeriod = p → s.deadline = some (t0 + (k + 1) * p.toNat) →
    (∀ e rest, s.pending = e :: rest → keepsTimerArmed (decode e) = true) → step s = .next t →
    t.vblPeriod = p ∧
    ((∃ e rest, s.pending = e :: rest ∧ decode e = .fire ∧ s.now = t0 + (k + 1) * p.toNat ∧
        t.deadline = some (t0 + (k + 2) * p.toNat)) ∨
      ((∀ e rest, s.pending = e :: rest → decode e ≠ .fire) ∧ t.deadline = some (t0 + (k + 1) * p.toNat)))
end

