-- ==== Sys2Proof/Laws/Decode.lean ====
section
/-! SUPPORT. The fields of a built descriptor, and how its fields make up a descriptor (R101, R102). -/

namespace Sys2Proof

@[simp] theorem descCls_mkDesc (c : BitVec 2) (w : BitVec 1) (z : BitVec 2) (o : Offset) :
    descCls (mkDesc c w z o) = c := by
  apply BitVec.eq_of_getLsbD_eq
  intro i hi
  simp only [descCls, mkDesc, BitVec.getLsbD_extractLsb', BitVec.getLsbD_append]
  interval_cases i <;> simp

@[simp] theorem descW_mkDesc (c : BitVec 2) (w : BitVec 1) (z : BitVec 2) (o : Offset) :
    descW (mkDesc c w z o) = w := by
  apply BitVec.eq_of_getLsbD_eq
  intro i hi
  simp only [descW, mkDesc, BitVec.getLsbD_extractLsb', BitVec.getLsbD_append]
  interval_cases i
  simp

@[simp] theorem descSz_mkDesc (c : BitVec 2) (w : BitVec 1) (z : BitVec 2) (o : Offset) :
    descSz (mkDesc c w z o) = z := by
  apply BitVec.eq_of_getLsbD_eq
  intro i hi
  simp only [descSz, mkDesc, BitVec.getLsbD_extractLsb', BitVec.getLsbD_append]
  interval_cases i <;> simp

@[simp] theorem descRsv_mkDesc (c : BitVec 2) (w : BitVec 1) (z : BitVec 2) (o : Offset) :
    descRsv (mkDesc c w z o) = 0 := by
  apply BitVec.eq_of_getLsbD_eq
  intro i hi
  simp only [descRsv, mkDesc, BitVec.getLsbD_extractLsb', BitVec.getLsbD_append]
  interval_cases i <;> simp

@[simp] theorem descOff_mkDesc (c : BitVec 2) (w : BitVec 1) (z : BitVec 2) (o : Offset) :
    descOff (mkDesc c w z o) = o := by
  apply BitVec.eq_of_getLsbD_eq
  intro i hi
  simp only [descOff, mkDesc, BitVec.getLsbD_extractLsb', BitVec.getLsbD_append]
  interval_cases i <;> simp

@[simp] theorem palIndex_palOffset (i : BitVec 8) : palIndex (palOffset i) = i := by
  apply BitVec.eq_of_getLsbD_eq
  intro k hk
  simp only [palIndex, palOffset, BitVec.getLsbD_extractLsb', BitVec.getLsbD_append]
  interval_cases k <;> simp

theorem palOffset_toNat (i : BitVec 8) : (palOffset i).toNat = 4 * i.toNat := by
  have h : palOffset i = BitVec.ofNat 16 (4 * i.toNat) := by
    apply BitVec.eq_of_getLsbD_eq
    intro k hk
    rw [show 4 * i.toNat = i.toNat <<< 2 by rw [Nat.shiftLeft_eq]; omega]
    simp only [palOffset, BitVec.getLsbD_append, BitVec.getLsbD_ofNat, Nat.testBit_shiftLeft]
    interval_cases k <;> simp [BitVec.getLsbD] <;>
      exact Nat.testBit_lt_two_pow (lt_of_lt_of_le i.isLt (by norm_num))
  have := i.isLt
  rw [h, BitVec.toNat_ofNat]
  omega

/-- A descriptor whose reserved field is 0 is made of its other fields. -/
theorem mkDesc_fields (d : Word) (h : descRsv d = 0) :
    mkDesc (descCls d) (descW d) (descSz d) (descOff d) = d := by
  have h2 : d = d.extractLsb' 30 2 ++ d.extractLsb' 29 1 ++ d.extractLsb' 27 2 ++ d.extractLsb' 16 11 ++
      d.extractLsb' 0 16 := by
    apply BitVec.eq_of_getLsbD_eq
    intro i hi
    simp only [BitVec.getLsbD_extractLsb', BitVec.getLsbD_append]
    interval_cases i <;> simp
  unfold descRsv at h
  rw [h] at h2
  exact h2.symm

/-- A descriptor as a number, field by field (R101). -/
theorem desc_toNat (d : Word) : d.toNat = (descCls d).toNat * 2 ^ 30 + (descW d).toNat * 2 ^ 29 +
    (descSz d).toNat * 2 ^ 27 + (descRsv d).toNat * 2 ^ 16 + (descOff d).toNat := by
  simp [descCls, descW, descSz, descRsv, descOff, BitVec.extractLsb'_toNat, Nat.shiftRight_eq_div_pow]
  have := d.isLt
  omega
/-- A bus descriptor with its reserved field 0 is no reserved one, so the decoder looks at the width first, then at
the alignment, then at the block (R107). -/
theorem decode_bus (c : BitVec 2) (w : BitVec 1) (z : BitVec 2) (o : Offset) (e : Event)
    (he : e.desc = mkDesc c w z o) (hc : c = 0 ∨ c = 1) :
    decode e =
      if z ≠ 2 then decodeBadsize e
      else if o.toNat % 4 ≠ 0 then decodeMisaligned e
      else if c = 0 then decodeRegister e else decodePalette e := by
  have hr : descReserved e.desc = false := by
    rw [he]
    simp only [descReserved, descRsv_mkDesc, descCls_mkDesc]
    rcases hc with rfl | rfl <;> simp
  unfold decode
  rw [hr]
  simp only [he, descCls_mkDesc, descSz_mkDesc, descOff_mkDesc]
  rcases hc with rfl | rfl <;> simp

/-- An event descriptor with a code up to 4 decodes by its code (R105, R107). -/
theorem decode_event (o : Offset) (e : Event) (he : e.desc = mkDesc 2 0 0 o) (ho : o.toNat ≤ 4) :
    decode e = decodeEventCode e := by
  have hr : descReserved e.desc = false := by
    rw [he]
    simp only [descReserved, descRsv_mkDesc, descCls_mkDesc, descW_mkDesc, descSz_mkDesc, descOff_mkDesc]
    simp
    omega
  unfold decode
  rw [hr, he, descCls_mkDesc]
  rfl

end Sys2Proof
end

