-- ==== Sys2Proof/Laws/State.lean ====
section
/-! SUPPORT. What each named update of the state does to each field: one lemma per field per update, true by
definition. -/

namespace Sys2Proof.Machine

/-! ### `State.returnData` -/
@[simp] theorem State.returnData_vblPeriod (v : Word) (s : State) : (s.returnData v).vblPeriod = s.vblPeriod := rfl
@[simp] theorem State.returnData_depth (v : Word) (s : State) : (s.returnData v).depth = s.depth := rfl
@[simp] theorem State.returnData_width (v : Word) (s : State) : (s.returnData v).width = s.width := rfl
@[simp] theorem State.returnData_height (v : Word) (s : State) : (s.returnData v).height = s.height := rfl
@[simp] theorem State.returnData_vaddr (v : Word) (s : State) : (s.returnData v).vaddr = s.vaddr := rfl
@[simp] theorem State.returnData_pal (v : Word) (s : State) : (s.returnData v).pal = s.pal := rfl
@[simp] theorem State.returnData_act (v : Word) (s : State) : (s.returnData v).act = s.act := rfl
@[simp] theorem State.returnData_fullRedraw (v : Word) (s : State) : (s.returnData v).fullRedraw = s.fullRedraw := rfl
@[simp] theorem State.returnData_irq (v : Word) (s : State) : (s.returnData v).irq = s.irq := rfl
@[simp] theorem State.returnData_deadline (v : Word) (s : State) : (s.returnData v).deadline = s.deadline := rfl
@[simp] theorem State.returnData_now (v : Word) (s : State) : (s.returnData v).now = s.now := rfl
@[simp] theorem State.returnData_mem (v : Word) (s : State) : (s.returnData v).mem = s.mem := rfl
@[simp] theorem State.returnData_dirty (v : Word) (s : State) : (s.returnData v).dirty = s.dirty := rfl
@[simp] theorem State.returnData_surfW (v : Word) (s : State) : (s.returnData v).surfW = s.surfW := rfl
@[simp] theorem State.returnData_surfH (v : Word) (s : State) : (s.returnData v).surfH = s.surfH := rfl
@[simp] theorem State.returnData_surf (v : Word) (s : State) : (s.returnData v).surf = s.surf := rfl
@[simp] theorem State.returnData_notes (v : Word) (s : State) : (s.returnData v).notes = s.notes := rfl
@[simp] theorem State.returnData_rdata (v : Word) (s : State) : (s.returnData v).rdata = s.rdata ++ [v] := rfl
@[simp] theorem State.returnData_pending (v : Word) (s : State) : (s.returnData v).pending = s.pending := rfl

/-! ### `State.setAct` -/
@[simp] theorem State.setAct_vblPeriod (m : Option ActiveMode) (s : State) : (s.setAct m).vblPeriod = s.vblPeriod := rfl
@[simp] theorem State.setAct_depth (m : Option ActiveMode) (s : State) : (s.setAct m).depth = s.depth := rfl
@[simp] theorem State.setAct_width (m : Option ActiveMode) (s : State) : (s.setAct m).width = s.width := rfl
@[simp] theorem State.setAct_height (m : Option ActiveMode) (s : State) : (s.setAct m).height = s.height := rfl
@[simp] theorem State.setAct_vaddr (m : Option ActiveMode) (s : State) : (s.setAct m).vaddr = s.vaddr := rfl
@[simp] theorem State.setAct_pal (m : Option ActiveMode) (s : State) : (s.setAct m).pal = s.pal := rfl
@[simp] theorem State.setAct_act (m : Option ActiveMode) (s : State) : (s.setAct m).act = m := rfl
@[simp] theorem State.setAct_fullRedraw (m : Option ActiveMode) (s : State) : (s.setAct m).fullRedraw = s.fullRedraw := rfl
@[simp] theorem State.setAct_irq (m : Option ActiveMode) (s : State) : (s.setAct m).irq = s.irq := rfl
@[simp] theorem State.setAct_deadline (m : Option ActiveMode) (s : State) : (s.setAct m).deadline = s.deadline := rfl
@[simp] theorem State.setAct_now (m : Option ActiveMode) (s : State) : (s.setAct m).now = s.now := rfl
@[simp] theorem State.setAct_mem (m : Option ActiveMode) (s : State) : (s.setAct m).mem = s.mem := rfl
@[simp] theorem State.setAct_dirty (m : Option ActiveMode) (s : State) : (s.setAct m).dirty = s.dirty := rfl
@[simp] theorem State.setAct_surfW (m : Option ActiveMode) (s : State) : (s.setAct m).surfW = s.surfW := rfl
@[simp] theorem State.setAct_surfH (m : Option ActiveMode) (s : State) : (s.setAct m).surfH = s.surfH := rfl
@[simp] theorem State.setAct_surf (m : Option ActiveMode) (s : State) : (s.setAct m).surf = s.surf := rfl
@[simp] theorem State.setAct_notes (m : Option ActiveMode) (s : State) : (s.setAct m).notes = s.notes := rfl
@[simp] theorem State.setAct_rdata (m : Option ActiveMode) (s : State) : (s.setAct m).rdata = s.rdata := rfl
@[simp] theorem State.setAct_pending (m : Option ActiveMode) (s : State) : (s.setAct m).pending = s.pending := rfl

/-! ### `State.palWrite` -/
@[simp] theorem State.palWrite_vblPeriod (i : Nat) (v : Color) (s : State) : (s.palWrite i v).vblPeriod = s.vblPeriod := rfl
@[simp] theorem State.palWrite_depth (i : Nat) (v : Color) (s : State) : (s.palWrite i v).depth = s.depth := rfl
@[simp] theorem State.palWrite_width (i : Nat) (v : Color) (s : State) : (s.palWrite i v).width = s.width := rfl
@[simp] theorem State.palWrite_height (i : Nat) (v : Color) (s : State) : (s.palWrite i v).height = s.height := rfl
@[simp] theorem State.palWrite_vaddr (i : Nat) (v : Color) (s : State) : (s.palWrite i v).vaddr = s.vaddr := rfl
@[simp] theorem State.palWrite_pal (i : Nat) (v : Color) (s : State) : (s.palWrite i v).pal = s.pal.setIfInBounds i v := rfl
@[simp] theorem State.palWrite_act (i : Nat) (v : Color) (s : State) : (s.palWrite i v).act = s.act := rfl
@[simp] theorem State.palWrite_fullRedraw (i : Nat) (v : Color) (s : State) : (s.palWrite i v).fullRedraw = s.fullRedraw := rfl
@[simp] theorem State.palWrite_irq (i : Nat) (v : Color) (s : State) : (s.palWrite i v).irq = s.irq := rfl
@[simp] theorem State.palWrite_deadline (i : Nat) (v : Color) (s : State) : (s.palWrite i v).deadline = s.deadline := rfl
@[simp] theorem State.palWrite_now (i : Nat) (v : Color) (s : State) : (s.palWrite i v).now = s.now := rfl
@[simp] theorem State.palWrite_mem (i : Nat) (v : Color) (s : State) : (s.palWrite i v).mem = s.mem := rfl
@[simp] theorem State.palWrite_dirty (i : Nat) (v : Color) (s : State) : (s.palWrite i v).dirty = s.dirty := rfl
@[simp] theorem State.palWrite_surfW (i : Nat) (v : Color) (s : State) : (s.palWrite i v).surfW = s.surfW := rfl
@[simp] theorem State.palWrite_surfH (i : Nat) (v : Color) (s : State) : (s.palWrite i v).surfH = s.surfH := rfl
@[simp] theorem State.palWrite_surf (i : Nat) (v : Color) (s : State) : (s.palWrite i v).surf = s.surf := rfl
@[simp] theorem State.palWrite_notes (i : Nat) (v : Color) (s : State) : (s.palWrite i v).notes = s.notes := rfl
@[simp] theorem State.palWrite_rdata (i : Nat) (v : Color) (s : State) : (s.palWrite i v).rdata = s.rdata := rfl
@[simp] theorem State.palWrite_pending (i : Nat) (v : Color) (s : State) : (s.palWrite i v).pending = s.pending := rfl

/-! ### `State.palReset` -/
@[simp] theorem State.palReset_vblPeriod (d : Depth) (s : State) : (s.palReset d).vblPeriod = s.vblPeriod := rfl
@[simp] theorem State.palReset_depth (d : Depth) (s : State) : (s.palReset d).depth = s.depth := rfl
@[simp] theorem State.palReset_width (d : Depth) (s : State) : (s.palReset d).width = s.width := rfl
@[simp] theorem State.palReset_height (d : Depth) (s : State) : (s.palReset d).height = s.height := rfl
@[simp] theorem State.palReset_vaddr (d : Depth) (s : State) : (s.palReset d).vaddr = s.vaddr := rfl
@[simp] theorem State.palReset_pal (d : Depth) (s : State) : (s.palReset d).pal = Config.defaultPalette d := rfl
@[simp] theorem State.palReset_act (d : Depth) (s : State) : (s.palReset d).act = s.act := rfl
@[simp] theorem State.palReset_fullRedraw (d : Depth) (s : State) : (s.palReset d).fullRedraw = s.fullRedraw := rfl
@[simp] theorem State.palReset_irq (d : Depth) (s : State) : (s.palReset d).irq = s.irq := rfl
@[simp] theorem State.palReset_deadline (d : Depth) (s : State) : (s.palReset d).deadline = s.deadline := rfl
@[simp] theorem State.palReset_now (d : Depth) (s : State) : (s.palReset d).now = s.now := rfl
@[simp] theorem State.palReset_mem (d : Depth) (s : State) : (s.palReset d).mem = s.mem := rfl
@[simp] theorem State.palReset_dirty (d : Depth) (s : State) : (s.palReset d).dirty = s.dirty := rfl
@[simp] theorem State.palReset_surfW (d : Depth) (s : State) : (s.palReset d).surfW = s.surfW := rfl
@[simp] theorem State.palReset_surfH (d : Depth) (s : State) : (s.palReset d).surfH = s.surfH := rfl
@[simp] theorem State.palReset_surf (d : Depth) (s : State) : (s.palReset d).surf = s.surf := rfl
@[simp] theorem State.palReset_notes (d : Depth) (s : State) : (s.palReset d).notes = s.notes := rfl
@[simp] theorem State.palReset_rdata (d : Depth) (s : State) : (s.palReset d).rdata = s.rdata := rfl
@[simp] theorem State.palReset_pending (d : Depth) (s : State) : (s.palReset d).pending = s.pending := rfl

/-! ### `State.emit` -/
@[simp] theorem State.emit_vblPeriod (n : Notification) (s : State) : (s.emit n).vblPeriod = s.vblPeriod := rfl
@[simp] theorem State.emit_depth (n : Notification) (s : State) : (s.emit n).depth = s.depth := rfl
@[simp] theorem State.emit_width (n : Notification) (s : State) : (s.emit n).width = s.width := rfl
@[simp] theorem State.emit_height (n : Notification) (s : State) : (s.emit n).height = s.height := rfl
@[simp] theorem State.emit_vaddr (n : Notification) (s : State) : (s.emit n).vaddr = s.vaddr := rfl
@[simp] theorem State.emit_pal (n : Notification) (s : State) : (s.emit n).pal = s.pal := rfl
@[simp] theorem State.emit_act (n : Notification) (s : State) : (s.emit n).act = s.act := rfl
@[simp] theorem State.emit_fullRedraw (n : Notification) (s : State) : (s.emit n).fullRedraw = s.fullRedraw := rfl
@[simp] theorem State.emit_irq (n : Notification) (s : State) : (s.emit n).irq = s.irq := rfl
@[simp] theorem State.emit_deadline (n : Notification) (s : State) : (s.emit n).deadline = s.deadline := rfl
@[simp] theorem State.emit_now (n : Notification) (s : State) : (s.emit n).now = s.now := rfl
@[simp] theorem State.emit_mem (n : Notification) (s : State) : (s.emit n).mem = s.mem := rfl
@[simp] theorem State.emit_dirty (n : Notification) (s : State) : (s.emit n).dirty = s.dirty := rfl
@[simp] theorem State.emit_surfW (n : Notification) (s : State) : (s.emit n).surfW = s.surfW := rfl
@[simp] theorem State.emit_surfH (n : Notification) (s : State) : (s.emit n).surfH = s.surfH := rfl
@[simp] theorem State.emit_surf (n : Notification) (s : State) : (s.emit n).surf = s.surf := rfl
@[simp] theorem State.emit_notes (n : Notification) (s : State) : (s.emit n).notes = s.notes ++ [n] := rfl
@[simp] theorem State.emit_rdata (n : Notification) (s : State) : (s.emit n).rdata = s.rdata := rfl
@[simp] theorem State.emit_pending (n : Notification) (s : State) : (s.emit n).pending = s.pending := rfl

/-! ### `State.setSurfaceSize` -/
@[simp] theorem State.setSurfaceSize_vblPeriod (w h : Nat) (s : State) : (s.setSurfaceSize w h).vblPeriod = s.vblPeriod := rfl
@[simp] theorem State.setSurfaceSize_depth (w h : Nat) (s : State) : (s.setSurfaceSize w h).depth = s.depth := rfl
@[simp] theorem State.setSurfaceSize_width (w h : Nat) (s : State) : (s.setSurfaceSize w h).width = s.width := rfl
@[simp] theorem State.setSurfaceSize_height (w h : Nat) (s : State) : (s.setSurfaceSize w h).height = s.height := rfl
@[simp] theorem State.setSurfaceSize_vaddr (w h : Nat) (s : State) : (s.setSurfaceSize w h).vaddr = s.vaddr := rfl
@[simp] theorem State.setSurfaceSize_pal (w h : Nat) (s : State) : (s.setSurfaceSize w h).pal = s.pal := rfl
@[simp] theorem State.setSurfaceSize_act (w h : Nat) (s : State) : (s.setSurfaceSize w h).act = s.act := rfl
@[simp] theorem State.setSurfaceSize_fullRedraw (w h : Nat) (s : State) : (s.setSurfaceSize w h).fullRedraw = s.fullRedraw := rfl
@[simp] theorem State.setSurfaceSize_irq (w h : Nat) (s : State) : (s.setSurfaceSize w h).irq = s.irq := rfl
@[simp] theorem State.setSurfaceSize_deadline (w h : Nat) (s : State) : (s.setSurfaceSize w h).deadline = s.deadline := rfl
@[simp] theorem State.setSurfaceSize_now (w h : Nat) (s : State) : (s.setSurfaceSize w h).now = s.now := rfl
@[simp] theorem State.setSurfaceSize_mem (w h : Nat) (s : State) : (s.setSurfaceSize w h).mem = s.mem := rfl
@[simp] theorem State.setSurfaceSize_dirty (w h : Nat) (s : State) : (s.setSurfaceSize w h).dirty = s.dirty := rfl
@[simp] theorem State.setSurfaceSize_surfW (w h : Nat) (s : State) : (s.setSurfaceSize w h).surfW = w := rfl
@[simp] theorem State.setSurfaceSize_surfH (w h : Nat) (s : State) : (s.setSurfaceSize w h).surfH = h := rfl
@[simp] theorem State.setSurfaceSize_surf (w h : Nat) (s : State) : (s.setSurfaceSize w h).surf = Surface.cut w h s.surf := rfl
@[simp] theorem State.setSurfaceSize_notes (w h : Nat) (s : State) : (s.setSurfaceSize w h).notes = s.notes := rfl
@[simp] theorem State.setSurfaceSize_rdata (w h : Nat) (s : State) : (s.setSurfaceSize w h).rdata = s.rdata := rfl
@[simp] theorem State.setSurfaceSize_pending (w h : Nat) (s : State) : (s.setSurfaceSize w h).pending = s.pending := rfl

/-! ### `State.arm` -/
@[simp] theorem State.arm_vblPeriod (d : Nat) (s : State) : (s.arm d).vblPeriod = s.vblPeriod := rfl
@[simp] theorem State.arm_depth (d : Nat) (s : State) : (s.arm d).depth = s.depth := rfl
@[simp] theorem State.arm_width (d : Nat) (s : State) : (s.arm d).width = s.width := rfl
@[simp] theorem State.arm_height (d : Nat) (s : State) : (s.arm d).height = s.height := rfl
@[simp] theorem State.arm_vaddr (d : Nat) (s : State) : (s.arm d).vaddr = s.vaddr := rfl
@[simp] theorem State.arm_pal (d : Nat) (s : State) : (s.arm d).pal = s.pal := rfl
@[simp] theorem State.arm_act (d : Nat) (s : State) : (s.arm d).act = s.act := rfl
@[simp] theorem State.arm_fullRedraw (d : Nat) (s : State) : (s.arm d).fullRedraw = s.fullRedraw := rfl
@[simp] theorem State.arm_irq (d : Nat) (s : State) : (s.arm d).irq = s.irq := rfl
@[simp] theorem State.arm_deadline (d : Nat) (s : State) : (s.arm d).deadline = some d := rfl
@[simp] theorem State.arm_now (d : Nat) (s : State) : (s.arm d).now = s.now := rfl
@[simp] theorem State.arm_mem (d : Nat) (s : State) : (s.arm d).mem = s.mem := rfl
@[simp] theorem State.arm_dirty (d : Nat) (s : State) : (s.arm d).dirty = s.dirty := rfl
@[simp] theorem State.arm_surfW (d : Nat) (s : State) : (s.arm d).surfW = s.surfW := rfl
@[simp] theorem State.arm_surfH (d : Nat) (s : State) : (s.arm d).surfH = s.surfH := rfl
@[simp] theorem State.arm_surf (d : Nat) (s : State) : (s.arm d).surf = s.surf := rfl
@[simp] theorem State.arm_notes (d : Nat) (s : State) : (s.arm d).notes = s.notes := rfl
@[simp] theorem State.arm_rdata (d : Nat) (s : State) : (s.arm d).rdata = s.rdata := rfl
@[simp] theorem State.arm_pending (d : Nat) (s : State) : (s.arm d).pending = s.pending := rfl

/-! ### `State.disarm` -/
@[simp] theorem State.disarm_vblPeriod (s : State) : (s.disarm).vblPeriod = s.vblPeriod := rfl
@[simp] theorem State.disarm_depth (s : State) : (s.disarm).depth = s.depth := rfl
@[simp] theorem State.disarm_width (s : State) : (s.disarm).width = s.width := rfl
@[simp] theorem State.disarm_height (s : State) : (s.disarm).height = s.height := rfl
@[simp] theorem State.disarm_vaddr (s : State) : (s.disarm).vaddr = s.vaddr := rfl
@[simp] theorem State.disarm_pal (s : State) : (s.disarm).pal = s.pal := rfl
@[simp] theorem State.disarm_act (s : State) : (s.disarm).act = s.act := rfl
@[simp] theorem State.disarm_fullRedraw (s : State) : (s.disarm).fullRedraw = s.fullRedraw := rfl
@[simp] theorem State.disarm_irq (s : State) : (s.disarm).irq = s.irq := rfl
@[simp] theorem State.disarm_deadline (s : State) : (s.disarm).deadline = none := rfl
@[simp] theorem State.disarm_now (s : State) : (s.disarm).now = s.now := rfl
@[simp] theorem State.disarm_mem (s : State) : (s.disarm).mem = s.mem := rfl
@[simp] theorem State.disarm_dirty (s : State) : (s.disarm).dirty = s.dirty := rfl
@[simp] theorem State.disarm_surfW (s : State) : (s.disarm).surfW = s.surfW := rfl
@[simp] theorem State.disarm_surfH (s : State) : (s.disarm).surfH = s.surfH := rfl
@[simp] theorem State.disarm_surf (s : State) : (s.disarm).surf = s.surf := rfl
@[simp] theorem State.disarm_notes (s : State) : (s.disarm).notes = s.notes := rfl
@[simp] theorem State.disarm_rdata (s : State) : (s.disarm).rdata = s.rdata := rfl
@[simp] theorem State.disarm_pending (s : State) : (s.disarm).pending = s.pending := rfl

/-! ### `State.setNow` -/
@[simp] theorem State.setNow_vblPeriod (t : Nat) (s : State) : (s.setNow t).vblPeriod = s.vblPeriod := rfl
@[simp] theorem State.setNow_depth (t : Nat) (s : State) : (s.setNow t).depth = s.depth := rfl
@[simp] theorem State.setNow_width (t : Nat) (s : State) : (s.setNow t).width = s.width := rfl
@[simp] theorem State.setNow_height (t : Nat) (s : State) : (s.setNow t).height = s.height := rfl
@[simp] theorem State.setNow_vaddr (t : Nat) (s : State) : (s.setNow t).vaddr = s.vaddr := rfl
@[simp] theorem State.setNow_pal (t : Nat) (s : State) : (s.setNow t).pal = s.pal := rfl
@[simp] theorem State.setNow_act (t : Nat) (s : State) : (s.setNow t).act = s.act := rfl
@[simp] theorem State.setNow_fullRedraw (t : Nat) (s : State) : (s.setNow t).fullRedraw = s.fullRedraw := rfl
@[simp] theorem State.setNow_irq (t : Nat) (s : State) : (s.setNow t).irq = s.irq := rfl
@[simp] theorem State.setNow_deadline (t : Nat) (s : State) : (s.setNow t).deadline = s.deadline := rfl
@[simp] theorem State.setNow_now (t : Nat) (s : State) : (s.setNow t).now = t := rfl
@[simp] theorem State.setNow_mem (t : Nat) (s : State) : (s.setNow t).mem = s.mem := rfl
@[simp] theorem State.setNow_dirty (t : Nat) (s : State) : (s.setNow t).dirty = s.dirty := rfl
@[simp] theorem State.setNow_surfW (t : Nat) (s : State) : (s.setNow t).surfW = s.surfW := rfl
@[simp] theorem State.setNow_surfH (t : Nat) (s : State) : (s.setNow t).surfH = s.surfH := rfl
@[simp] theorem State.setNow_surf (t : Nat) (s : State) : (s.setNow t).surf = s.surf := rfl
@[simp] theorem State.setNow_notes (t : Nat) (s : State) : (s.setNow t).notes = s.notes := rfl
@[simp] theorem State.setNow_rdata (t : Nat) (s : State) : (s.setNow t).rdata = s.rdata := rfl
@[simp] theorem State.setNow_pending (t : Nat) (s : State) : (s.setNow t).pending = s.pending := rfl

/-! ### `State.setPending` -/
@[simp] theorem State.setPending_vblPeriod (es : List Event) (s : State) : (s.setPending es).vblPeriod = s.vblPeriod := rfl
@[simp] theorem State.setPending_depth (es : List Event) (s : State) : (s.setPending es).depth = s.depth := rfl
@[simp] theorem State.setPending_width (es : List Event) (s : State) : (s.setPending es).width = s.width := rfl
@[simp] theorem State.setPending_height (es : List Event) (s : State) : (s.setPending es).height = s.height := rfl
@[simp] theorem State.setPending_vaddr (es : List Event) (s : State) : (s.setPending es).vaddr = s.vaddr := rfl
@[simp] theorem State.setPending_pal (es : List Event) (s : State) : (s.setPending es).pal = s.pal := rfl
@[simp] theorem State.setPending_act (es : List Event) (s : State) : (s.setPending es).act = s.act := rfl
@[simp] theorem State.setPending_fullRedraw (es : List Event) (s : State) : (s.setPending es).fullRedraw = s.fullRedraw := rfl
@[simp] theorem State.setPending_irq (es : List Event) (s : State) : (s.setPending es).irq = s.irq := rfl
@[simp] theorem State.setPending_deadline (es : List Event) (s : State) : (s.setPending es).deadline = s.deadline := rfl
@[simp] theorem State.setPending_now (es : List Event) (s : State) : (s.setPending es).now = s.now := rfl
@[simp] theorem State.setPending_mem (es : List Event) (s : State) : (s.setPending es).mem = s.mem := rfl
@[simp] theorem State.setPending_dirty (es : List Event) (s : State) : (s.setPending es).dirty = s.dirty := rfl
@[simp] theorem State.setPending_surfW (es : List Event) (s : State) : (s.setPending es).surfW = s.surfW := rfl
@[simp] theorem State.setPending_surfH (es : List Event) (s : State) : (s.setPending es).surfH = s.surfH := rfl
@[simp] theorem State.setPending_surf (es : List Event) (s : State) : (s.setPending es).surf = s.surf := rfl
@[simp] theorem State.setPending_notes (es : List Event) (s : State) : (s.setPending es).notes = s.notes := rfl
@[simp] theorem State.setPending_rdata (es : List Event) (s : State) : (s.setPending es).rdata = s.rdata := rfl
@[simp] theorem State.setPending_pending (es : List Event) (s : State) : (s.setPending es).pending = es := rfl

/-! ### `State.raiseIrq` -/
@[simp] theorem State.raiseIrq_vblPeriod (s : State) : (s.raiseIrq).vblPeriod = s.vblPeriod := rfl
@[simp] theorem State.raiseIrq_depth (s : State) : (s.raiseIrq).depth = s.depth := rfl
@[simp] theorem State.raiseIrq_width (s : State) : (s.raiseIrq).width = s.width := rfl
@[simp] theorem State.raiseIrq_height (s : State) : (s.raiseIrq).height = s.height := rfl
@[simp] theorem State.raiseIrq_vaddr (s : State) : (s.raiseIrq).vaddr = s.vaddr := rfl
@[simp] theorem State.raiseIrq_pal (s : State) : (s.raiseIrq).pal = s.pal := rfl
@[simp] theorem State.raiseIrq_act (s : State) : (s.raiseIrq).act = s.act := rfl
@[simp] theorem State.raiseIrq_fullRedraw (s : State) : (s.raiseIrq).fullRedraw = s.fullRedraw := rfl
@[simp] theorem State.raiseIrq_irq (s : State) : (s.raiseIrq).irq = true := rfl
@[simp] theorem State.raiseIrq_deadline (s : State) : (s.raiseIrq).deadline = s.deadline := rfl
@[simp] theorem State.raiseIrq_now (s : State) : (s.raiseIrq).now = s.now := rfl
@[simp] theorem State.raiseIrq_mem (s : State) : (s.raiseIrq).mem = s.mem := rfl
@[simp] theorem State.raiseIrq_dirty (s : State) : (s.raiseIrq).dirty = s.dirty := rfl
@[simp] theorem State.raiseIrq_surfW (s : State) : (s.raiseIrq).surfW = s.surfW := rfl
@[simp] theorem State.raiseIrq_surfH (s : State) : (s.raiseIrq).surfH = s.surfH := rfl
@[simp] theorem State.raiseIrq_surf (s : State) : (s.raiseIrq).surf = s.surf := rfl
@[simp] theorem State.raiseIrq_notes (s : State) : (s.raiseIrq).notes = s.notes := rfl
@[simp] theorem State.raiseIrq_rdata (s : State) : (s.raiseIrq).rdata = s.rdata := rfl
@[simp] theorem State.raiseIrq_pending (s : State) : (s.raiseIrq).pending = s.pending := rfl

/-! ### `State.lowerIrq` -/
@[simp] theorem State.lowerIrq_vblPeriod (s : State) : (s.lowerIrq).vblPeriod = s.vblPeriod := rfl
@[simp] theorem State.lowerIrq_depth (s : State) : (s.lowerIrq).depth = s.depth := rfl
@[simp] theorem State.lowerIrq_width (s : State) : (s.lowerIrq).width = s.width := rfl
@[simp] theorem State.lowerIrq_height (s : State) : (s.lowerIrq).height = s.height := rfl
@[simp] theorem State.lowerIrq_vaddr (s : State) : (s.lowerIrq).vaddr = s.vaddr := rfl
@[simp] theorem State.lowerIrq_pal (s : State) : (s.lowerIrq).pal = s.pal := rfl
@[simp] theorem State.lowerIrq_act (s : State) : (s.lowerIrq).act = s.act := rfl
@[simp] theorem State.lowerIrq_fullRedraw (s : State) : (s.lowerIrq).fullRedraw = s.fullRedraw := rfl
@[simp] theorem State.lowerIrq_irq (s : State) : (s.lowerIrq).irq = false := rfl
@[simp] theorem State.lowerIrq_deadline (s : State) : (s.lowerIrq).deadline = s.deadline := rfl
@[simp] theorem State.lowerIrq_now (s : State) : (s.lowerIrq).now = s.now := rfl
@[simp] theorem State.lowerIrq_mem (s : State) : (s.lowerIrq).mem = s.mem := rfl
@[simp] theorem State.lowerIrq_dirty (s : State) : (s.lowerIrq).dirty = s.dirty := rfl
@[simp] theorem State.lowerIrq_surfW (s : State) : (s.lowerIrq).surfW = s.surfW := rfl
@[simp] theorem State.lowerIrq_surfH (s : State) : (s.lowerIrq).surfH = s.surfH := rfl
@[simp] theorem State.lowerIrq_surf (s : State) : (s.lowerIrq).surf = s.surf := rfl
@[simp] theorem State.lowerIrq_notes (s : State) : (s.lowerIrq).notes = s.notes := rfl
@[simp] theorem State.lowerIrq_rdata (s : State) : (s.lowerIrq).rdata = s.rdata := rfl
@[simp] theorem State.lowerIrq_pending (s : State) : (s.lowerIrq).pending = s.pending := rfl

/-! ### `State.setFullRedraw` -/
@[simp] theorem State.setFullRedraw_vblPeriod (s : State) : (s.setFullRedraw).vblPeriod = s.vblPeriod := rfl
@[simp] theorem State.setFullRedraw_depth (s : State) : (s.setFullRedraw).depth = s.depth := rfl
@[simp] theorem State.setFullRedraw_width (s : State) : (s.setFullRedraw).width = s.width := rfl
@[simp] theorem State.setFullRedraw_height (s : State) : (s.setFullRedraw).height = s.height := rfl
@[simp] theorem State.setFullRedraw_vaddr (s : State) : (s.setFullRedraw).vaddr = s.vaddr := rfl
@[simp] theorem State.setFullRedraw_pal (s : State) : (s.setFullRedraw).pal = s.pal := rfl
@[simp] theorem State.setFullRedraw_act (s : State) : (s.setFullRedraw).act = s.act := rfl
@[simp] theorem State.setFullRedraw_fullRedraw (s : State) : (s.setFullRedraw).fullRedraw = true := rfl
@[simp] theorem State.setFullRedraw_irq (s : State) : (s.setFullRedraw).irq = s.irq := rfl
@[simp] theorem State.setFullRedraw_deadline (s : State) : (s.setFullRedraw).deadline = s.deadline := rfl
@[simp] theorem State.setFullRedraw_now (s : State) : (s.setFullRedraw).now = s.now := rfl
@[simp] theorem State.setFullRedraw_mem (s : State) : (s.setFullRedraw).mem = s.mem := rfl
@[simp] theorem State.setFullRedraw_dirty (s : State) : (s.setFullRedraw).dirty = s.dirty := rfl
@[simp] theorem State.setFullRedraw_surfW (s : State) : (s.setFullRedraw).surfW = s.surfW := rfl
@[simp] theorem State.setFullRedraw_surfH (s : State) : (s.setFullRedraw).surfH = s.surfH := rfl
@[simp] theorem State.setFullRedraw_surf (s : State) : (s.setFullRedraw).surf = s.surf := rfl
@[simp] theorem State.setFullRedraw_notes (s : State) : (s.setFullRedraw).notes = s.notes := rfl
@[simp] theorem State.setFullRedraw_rdata (s : State) : (s.setFullRedraw).rdata = s.rdata := rfl
@[simp] theorem State.setFullRedraw_pending (s : State) : (s.setFullRedraw).pending = s.pending := rfl

/-! ### `State.clearFullRedraw` -/
@[simp] theorem State.clearFullRedraw_vblPeriod (s : State) : (s.clearFullRedraw).vblPeriod = s.vblPeriod := rfl
@[simp] theorem State.clearFullRedraw_depth (s : State) : (s.clearFullRedraw).depth = s.depth := rfl
@[simp] theorem State.clearFullRedraw_width (s : State) : (s.clearFullRedraw).width = s.width := rfl
@[simp] theorem State.clearFullRedraw_height (s : State) : (s.clearFullRedraw).height = s.height := rfl
@[simp] theorem State.clearFullRedraw_vaddr (s : State) : (s.clearFullRedraw).vaddr = s.vaddr := rfl
@[simp] theorem State.clearFullRedraw_pal (s : State) : (s.clearFullRedraw).pal = s.pal := rfl
@[simp] theorem State.clearFullRedraw_act (s : State) : (s.clearFullRedraw).act = s.act := rfl
@[simp] theorem State.clearFullRedraw_fullRedraw (s : State) : (s.clearFullRedraw).fullRedraw = false := rfl
@[simp] theorem State.clearFullRedraw_irq (s : State) : (s.clearFullRedraw).irq = s.irq := rfl
@[simp] theorem State.clearFullRedraw_deadline (s : State) : (s.clearFullRedraw).deadline = s.deadline := rfl
@[simp] theorem State.clearFullRedraw_now (s : State) : (s.clearFullRedraw).now = s.now := rfl
@[simp] theorem State.clearFullRedraw_mem (s : State) : (s.clearFullRedraw).mem = s.mem := rfl
@[simp] theorem State.clearFullRedraw_dirty (s : State) : (s.clearFullRedraw).dirty = s.dirty := rfl
@[simp] theorem State.clearFullRedraw_surfW (s : State) : (s.clearFullRedraw).surfW = s.surfW := rfl
@[simp] theorem State.clearFullRedraw_surfH (s : State) : (s.clearFullRedraw).surfH = s.surfH := rfl
@[simp] theorem State.clearFullRedraw_surf (s : State) : (s.clearFullRedraw).surf = s.surf := rfl
@[simp] theorem State.clearFullRedraw_notes (s : State) : (s.clearFullRedraw).notes = s.notes := rfl
@[simp] theorem State.clearFullRedraw_rdata (s : State) : (s.clearFullRedraw).rdata = s.rdata := rfl
@[simp] theorem State.clearFullRedraw_pending (s : State) : (s.clearFullRedraw).pending = s.pending := rfl

/-! ### `State.guestWriteByte` -/
@[simp] theorem State.guestWriteByte_vblPeriod (a : Nat) (b : Byte) (s : State) : (s.guestWriteByte a b).vblPeriod = s.vblPeriod := rfl
@[simp] theorem State.guestWriteByte_depth (a : Nat) (b : Byte) (s : State) : (s.guestWriteByte a b).depth = s.depth := rfl
@[simp] theorem State.guestWriteByte_width (a : Nat) (b : Byte) (s : State) : (s.guestWriteByte a b).width = s.width := rfl
@[simp] theorem State.guestWriteByte_height (a : Nat) (b : Byte) (s : State) : (s.guestWriteByte a b).height = s.height := rfl
@[simp] theorem State.guestWriteByte_vaddr (a : Nat) (b : Byte) (s : State) : (s.guestWriteByte a b).vaddr = s.vaddr := rfl
@[simp] theorem State.guestWriteByte_pal (a : Nat) (b : Byte) (s : State) : (s.guestWriteByte a b).pal = s.pal := rfl
@[simp] theorem State.guestWriteByte_act (a : Nat) (b : Byte) (s : State) : (s.guestWriteByte a b).act = s.act := rfl
@[simp] theorem State.guestWriteByte_fullRedraw (a : Nat) (b : Byte) (s : State) : (s.guestWriteByte a b).fullRedraw = s.fullRedraw := rfl
@[simp] theorem State.guestWriteByte_irq (a : Nat) (b : Byte) (s : State) : (s.guestWriteByte a b).irq = s.irq := rfl
@[simp] theorem State.guestWriteByte_deadline (a : Nat) (b : Byte) (s : State) : (s.guestWriteByte a b).deadline = s.deadline := rfl
@[simp] theorem State.guestWriteByte_now (a : Nat) (b : Byte) (s : State) : (s.guestWriteByte a b).now = s.now := rfl
@[simp] theorem State.guestWriteByte_mem (a : Nat) (b : Byte) (s : State) : (s.guestWriteByte a b).mem = Memory.write a b s.mem := rfl
@[simp] theorem State.guestWriteByte_dirty (a : Nat) (b : Byte) (s : State) : (s.guestWriteByte a b).dirty = dirtyInsert a s.dirty := rfl
@[simp] theorem State.guestWriteByte_surfW (a : Nat) (b : Byte) (s : State) : (s.guestWriteByte a b).surfW = s.surfW := rfl
@[simp] theorem State.guestWriteByte_surfH (a : Nat) (b : Byte) (s : State) : (s.guestWriteByte a b).surfH = s.surfH := rfl
@[simp] theorem State.guestWriteByte_surf (a : Nat) (b : Byte) (s : State) : (s.guestWriteByte a b).surf = s.surf := rfl
@[simp] theorem State.guestWriteByte_notes (a : Nat) (b : Byte) (s : State) : (s.guestWriteByte a b).notes = s.notes := rfl
@[simp] theorem State.guestWriteByte_rdata (a : Nat) (b : Byte) (s : State) : (s.guestWriteByte a b).rdata = s.rdata := rfl
@[simp] theorem State.guestWriteByte_pending (a : Nat) (b : Byte) (s : State) : (s.guestWriteByte a b).pending = s.pending := rfl

/-! ### `State.regStore` of vblAck -/
@[simp] theorem State.regStore_vblAck_vblPeriod (v : Word) (s : State) : (s.regStore .vblAck v).vblPeriod = s.vblPeriod := rfl
@[simp] theorem State.regStore_vblAck_depth (v : Word) (s : State) : (s.regStore .vblAck v).depth = s.depth := rfl
@[simp] theorem State.regStore_vblAck_width (v : Word) (s : State) : (s.regStore .vblAck v).width = s.width := rfl
@[simp] theorem State.regStore_vblAck_height (v : Word) (s : State) : (s.regStore .vblAck v).height = s.height := rfl
@[simp] theorem State.regStore_vblAck_vaddr (v : Word) (s : State) : (s.regStore .vblAck v).vaddr = s.vaddr := rfl
@[simp] theorem State.regStore_vblAck_pal (v : Word) (s : State) : (s.regStore .vblAck v).pal = s.pal := rfl
@[simp] theorem State.regStore_vblAck_act (v : Word) (s : State) : (s.regStore .vblAck v).act = s.act := rfl
@[simp] theorem State.regStore_vblAck_fullRedraw (v : Word) (s : State) : (s.regStore .vblAck v).fullRedraw = s.fullRedraw := rfl
@[simp] theorem State.regStore_vblAck_irq (v : Word) (s : State) : (s.regStore .vblAck v).irq = s.irq := rfl
@[simp] theorem State.regStore_vblAck_deadline (v : Word) (s : State) : (s.regStore .vblAck v).deadline = s.deadline := rfl
@[simp] theorem State.regStore_vblAck_now (v : Word) (s : State) : (s.regStore .vblAck v).now = s.now := rfl
@[simp] theorem State.regStore_vblAck_mem (v : Word) (s : State) : (s.regStore .vblAck v).mem = s.mem := rfl
@[simp] theorem State.regStore_vblAck_dirty (v : Word) (s : State) : (s.regStore .vblAck v).dirty = s.dirty := rfl
@[simp] theorem State.regStore_vblAck_surfW (v : Word) (s : State) : (s.regStore .vblAck v).surfW = s.surfW := rfl
@[simp] theorem State.regStore_vblAck_surfH (v : Word) (s : State) : (s.regStore .vblAck v).surfH = s.surfH := rfl
@[simp] theorem State.regStore_vblAck_surf (v : Word) (s : State) : (s.regStore .vblAck v).surf = s.surf := rfl
@[simp] theorem State.regStore_vblAck_notes (v : Word) (s : State) : (s.regStore .vblAck v).notes = s.notes := rfl
@[simp] theorem State.regStore_vblAck_rdata (v : Word) (s : State) : (s.regStore .vblAck v).rdata = s.rdata := rfl
@[simp] theorem State.regStore_vblAck_pending (v : Word) (s : State) : (s.regStore .vblAck v).pending = s.pending := rfl

/-! ### `State.regStore` of vblPeriod -/
@[simp] theorem State.regStore_vblPeriod_vblPeriod (v : Word) (s : State) : (s.regStore .vblPeriod v).vblPeriod = v := rfl
@[simp] theorem State.regStore_vblPeriod_depth (v : Word) (s : State) : (s.regStore .vblPeriod v).depth = s.depth := rfl
@[simp] theorem State.regStore_vblPeriod_width (v : Word) (s : State) : (s.regStore .vblPeriod v).width = s.width := rfl
@[simp] theorem State.regStore_vblPeriod_height (v : Word) (s : State) : (s.regStore .vblPeriod v).height = s.height := rfl
@[simp] theorem State.regStore_vblPeriod_vaddr (v : Word) (s : State) : (s.regStore .vblPeriod v).vaddr = s.vaddr := rfl
@[simp] theorem State.regStore_vblPeriod_pal (v : Word) (s : State) : (s.regStore .vblPeriod v).pal = s.pal := rfl
@[simp] theorem State.regStore_vblPeriod_act (v : Word) (s : State) : (s.regStore .vblPeriod v).act = s.act := rfl
@[simp] theorem State.regStore_vblPeriod_fullRedraw (v : Word) (s : State) : (s.regStore .vblPeriod v).fullRedraw = s.fullRedraw := rfl
@[simp] theorem State.regStore_vblPeriod_irq (v : Word) (s : State) : (s.regStore .vblPeriod v).irq = s.irq := rfl
@[simp] theorem State.regStore_vblPeriod_deadline (v : Word) (s : State) : (s.regStore .vblPeriod v).deadline = s.deadline := rfl
@[simp] theorem State.regStore_vblPeriod_now (v : Word) (s : State) : (s.regStore .vblPeriod v).now = s.now := rfl
@[simp] theorem State.regStore_vblPeriod_mem (v : Word) (s : State) : (s.regStore .vblPeriod v).mem = s.mem := rfl
@[simp] theorem State.regStore_vblPeriod_dirty (v : Word) (s : State) : (s.regStore .vblPeriod v).dirty = s.dirty := rfl
@[simp] theorem State.regStore_vblPeriod_surfW (v : Word) (s : State) : (s.regStore .vblPeriod v).surfW = s.surfW := rfl
@[simp] theorem State.regStore_vblPeriod_surfH (v : Word) (s : State) : (s.regStore .vblPeriod v).surfH = s.surfH := rfl
@[simp] theorem State.regStore_vblPeriod_surf (v : Word) (s : State) : (s.regStore .vblPeriod v).surf = s.surf := rfl
@[simp] theorem State.regStore_vblPeriod_notes (v : Word) (s : State) : (s.regStore .vblPeriod v).notes = s.notes := rfl
@[simp] theorem State.regStore_vblPeriod_rdata (v : Word) (s : State) : (s.regStore .vblPeriod v).rdata = s.rdata := rfl
@[simp] theorem State.regStore_vblPeriod_pending (v : Word) (s : State) : (s.regStore .vblPeriod v).pending = s.pending := rfl

/-! ### `State.regStore` of depth -/
@[simp] theorem State.regStore_depth_vblPeriod (v : Word) (s : State) : (s.regStore .depth v).vblPeriod = s.vblPeriod := rfl
@[simp] theorem State.regStore_depth_depth (v : Word) (s : State) : (s.regStore .depth v).depth = v := rfl
@[simp] theorem State.regStore_depth_width (v : Word) (s : State) : (s.regStore .depth v).width = s.width := rfl
@[simp] theorem State.regStore_depth_height (v : Word) (s : State) : (s.regStore .depth v).height = s.height := rfl
@[simp] theorem State.regStore_depth_vaddr (v : Word) (s : State) : (s.regStore .depth v).vaddr = s.vaddr := rfl
@[simp] theorem State.regStore_depth_pal (v : Word) (s : State) : (s.regStore .depth v).pal = s.pal := rfl
@[simp] theorem State.regStore_depth_act (v : Word) (s : State) : (s.regStore .depth v).act = s.act := rfl
@[simp] theorem State.regStore_depth_fullRedraw (v : Word) (s : State) : (s.regStore .depth v).fullRedraw = s.fullRedraw := rfl
@[simp] theorem State.regStore_depth_irq (v : Word) (s : State) : (s.regStore .depth v).irq = s.irq := rfl
@[simp] theorem State.regStore_depth_deadline (v : Word) (s : State) : (s.regStore .depth v).deadline = s.deadline := rfl
@[simp] theorem State.regStore_depth_now (v : Word) (s : State) : (s.regStore .depth v).now = s.now := rfl
@[simp] theorem State.regStore_depth_mem (v : Word) (s : State) : (s.regStore .depth v).mem = s.mem := rfl
@[simp] theorem State.regStore_depth_dirty (v : Word) (s : State) : (s.regStore .depth v).dirty = s.dirty := rfl
@[simp] theorem State.regStore_depth_surfW (v : Word) (s : State) : (s.regStore .depth v).surfW = s.surfW := rfl
@[simp] theorem State.regStore_depth_surfH (v : Word) (s : State) : (s.regStore .depth v).surfH = s.surfH := rfl
@[simp] theorem State.regStore_depth_surf (v : Word) (s : State) : (s.regStore .depth v).surf = s.surf := rfl
@[simp] theorem State.regStore_depth_notes (v : Word) (s : State) : (s.regStore .depth v).notes = s.notes := rfl
@[simp] theorem State.regStore_depth_rdata (v : Word) (s : State) : (s.regStore .depth v).rdata = s.rdata := rfl
@[simp] theorem State.regStore_depth_pending (v : Word) (s : State) : (s.regStore .depth v).pending = s.pending := rfl

/-! ### `State.regStore` of width -/
@[simp] theorem State.regStore_width_vblPeriod (v : Word) (s : State) : (s.regStore .width v).vblPeriod = s.vblPeriod := rfl
@[simp] theorem State.regStore_width_depth (v : Word) (s : State) : (s.regStore .width v).depth = s.depth := rfl
@[simp] theorem State.regStore_width_width (v : Word) (s : State) : (s.regStore .width v).width = v := rfl
@[simp] theorem State.regStore_width_height (v : Word) (s : State) : (s.regStore .width v).height = s.height := rfl
@[simp] theorem State.regStore_width_vaddr (v : Word) (s : State) : (s.regStore .width v).vaddr = s.vaddr := rfl
@[simp] theorem State.regStore_width_pal (v : Word) (s : State) : (s.regStore .width v).pal = s.pal := rfl
@[simp] theorem State.regStore_width_act (v : Word) (s : State) : (s.regStore .width v).act = s.act := rfl
@[simp] theorem State.regStore_width_fullRedraw (v : Word) (s : State) : (s.regStore .width v).fullRedraw = s.fullRedraw := rfl
@[simp] theorem State.regStore_width_irq (v : Word) (s : State) : (s.regStore .width v).irq = s.irq := rfl
@[simp] theorem State.regStore_width_deadline (v : Word) (s : State) : (s.regStore .width v).deadline = s.deadline := rfl
@[simp] theorem State.regStore_width_now (v : Word) (s : State) : (s.regStore .width v).now = s.now := rfl
@[simp] theorem State.regStore_width_mem (v : Word) (s : State) : (s.regStore .width v).mem = s.mem := rfl
@[simp] theorem State.regStore_width_dirty (v : Word) (s : State) : (s.regStore .width v).dirty = s.dirty := rfl
@[simp] theorem State.regStore_width_surfW (v : Word) (s : State) : (s.regStore .width v).surfW = s.surfW := rfl
@[simp] theorem State.regStore_width_surfH (v : Word) (s : State) : (s.regStore .width v).surfH = s.surfH := rfl
@[simp] theorem State.regStore_width_surf (v : Word) (s : State) : (s.regStore .width v).surf = s.surf := rfl
@[simp] theorem State.regStore_width_notes (v : Word) (s : State) : (s.regStore .width v).notes = s.notes := rfl
@[simp] theorem State.regStore_width_rdata (v : Word) (s : State) : (s.regStore .width v).rdata = s.rdata := rfl
@[simp] theorem State.regStore_width_pending (v : Word) (s : State) : (s.regStore .width v).pending = s.pending := rfl

/-! ### `State.regStore` of height -/
@[simp] theorem State.regStore_height_vblPeriod (v : Word) (s : State) : (s.regStore .height v).vblPeriod = s.vblPeriod := rfl
@[simp] theorem State.regStore_height_depth (v : Word) (s : State) : (s.regStore .height v).depth = s.depth := rfl
@[simp] theorem State.regStore_height_width (v : Word) (s : State) : (s.regStore .height v).width = s.width := rfl
@[simp] theorem State.regStore_height_height (v : Word) (s : State) : (s.regStore .height v).height = v := rfl
@[simp] theorem State.regStore_height_vaddr (v : Word) (s : State) : (s.regStore .height v).vaddr = s.vaddr := rfl
@[simp] theorem State.regStore_height_pal (v : Word) (s : State) : (s.regStore .height v).pal = s.pal := rfl
@[simp] theorem State.regStore_height_act (v : Word) (s : State) : (s.regStore .height v).act = s.act := rfl
@[simp] theorem State.regStore_height_fullRedraw (v : Word) (s : State) : (s.regStore .height v).fullRedraw = s.fullRedraw := rfl
@[simp] theorem State.regStore_height_irq (v : Word) (s : State) : (s.regStore .height v).irq = s.irq := rfl
@[simp] theorem State.regStore_height_deadline (v : Word) (s : State) : (s.regStore .height v).deadline = s.deadline := rfl
@[simp] theorem State.regStore_height_now (v : Word) (s : State) : (s.regStore .height v).now = s.now := rfl
@[simp] theorem State.regStore_height_mem (v : Word) (s : State) : (s.regStore .height v).mem = s.mem := rfl
@[simp] theorem State.regStore_height_dirty (v : Word) (s : State) : (s.regStore .height v).dirty = s.dirty := rfl
@[simp] theorem State.regStore_height_surfW (v : Word) (s : State) : (s.regStore .height v).surfW = s.surfW := rfl
@[simp] theorem State.regStore_height_surfH (v : Word) (s : State) : (s.regStore .height v).surfH = s.surfH := rfl
@[simp] theorem State.regStore_height_surf (v : Word) (s : State) : (s.regStore .height v).surf = s.surf := rfl
@[simp] theorem State.regStore_height_notes (v : Word) (s : State) : (s.regStore .height v).notes = s.notes := rfl
@[simp] theorem State.regStore_height_rdata (v : Word) (s : State) : (s.regStore .height v).rdata = s.rdata := rfl
@[simp] theorem State.regStore_height_pending (v : Word) (s : State) : (s.regStore .height v).pending = s.pending := rfl

/-! ### `State.regStore` of vaddr -/
@[simp] theorem State.regStore_vaddr_vblPeriod (v : Word) (s : State) : (s.regStore .vaddr v).vblPeriod = s.vblPeriod := rfl
@[simp] theorem State.regStore_vaddr_depth (v : Word) (s : State) : (s.regStore .vaddr v).depth = s.depth := rfl
@[simp] theorem State.regStore_vaddr_width (v : Word) (s : State) : (s.regStore .vaddr v).width = s.width := rfl
@[simp] theorem State.regStore_vaddr_height (v : Word) (s : State) : (s.regStore .vaddr v).height = s.height := rfl
@[simp] theorem State.regStore_vaddr_vaddr (v : Word) (s : State) : (s.regStore .vaddr v).vaddr = v := rfl
@[simp] theorem State.regStore_vaddr_pal (v : Word) (s : State) : (s.regStore .vaddr v).pal = s.pal := rfl
@[simp] theorem State.regStore_vaddr_act (v : Word) (s : State) : (s.regStore .vaddr v).act = s.act := rfl
@[simp] theorem State.regStore_vaddr_fullRedraw (v : Word) (s : State) : (s.regStore .vaddr v).fullRedraw = s.fullRedraw := rfl
@[simp] theorem State.regStore_vaddr_irq (v : Word) (s : State) : (s.regStore .vaddr v).irq = s.irq := rfl
@[simp] theorem State.regStore_vaddr_deadline (v : Word) (s : State) : (s.regStore .vaddr v).deadline = s.deadline := rfl
@[simp] theorem State.regStore_vaddr_now (v : Word) (s : State) : (s.regStore .vaddr v).now = s.now := rfl
@[simp] theorem State.regStore_vaddr_mem (v : Word) (s : State) : (s.regStore .vaddr v).mem = s.mem := rfl
@[simp] theorem State.regStore_vaddr_dirty (v : Word) (s : State) : (s.regStore .vaddr v).dirty = s.dirty := rfl
@[simp] theorem State.regStore_vaddr_surfW (v : Word) (s : State) : (s.regStore .vaddr v).surfW = s.surfW := rfl
@[simp] theorem State.regStore_vaddr_surfH (v : Word) (s : State) : (s.regStore .vaddr v).surfH = s.surfH := rfl
@[simp] theorem State.regStore_vaddr_surf (v : Word) (s : State) : (s.regStore .vaddr v).surf = s.surf := rfl
@[simp] theorem State.regStore_vaddr_notes (v : Word) (s : State) : (s.regStore .vaddr v).notes = s.notes := rfl
@[simp] theorem State.regStore_vaddr_rdata (v : Word) (s : State) : (s.regStore .vaddr v).rdata = s.rdata := rfl
@[simp] theorem State.regStore_vaddr_pending (v : Word) (s : State) : (s.regStore .vaddr v).pending = s.pending := rfl

/-! ### `State.writeRow` and `State.clearDirtyIn` -/
@[simp] theorem State.writeRow_vblPeriod (y : Nat) (px : List Color) (s : State) : (s.writeRow y px).vblPeriod = s.vblPeriod := by
  unfold State.writeRow; split <;> rfl
@[simp] theorem State.writeRow_depth (y : Nat) (px : List Color) (s : State) : (s.writeRow y px).depth = s.depth := by
  unfold State.writeRow; split <;> rfl
@[simp] theorem State.writeRow_width (y : Nat) (px : List Color) (s : State) : (s.writeRow y px).width = s.width := by
  unfold State.writeRow; split <;> rfl
@[simp] theorem State.writeRow_height (y : Nat) (px : List Color) (s : State) : (s.writeRow y px).height = s.height := by
  unfold State.writeRow; split <;> rfl
@[simp] theorem State.writeRow_vaddr (y : Nat) (px : List Color) (s : State) : (s.writeRow y px).vaddr = s.vaddr := by
  unfold State.writeRow; split <;> rfl
@[simp] theorem State.writeRow_pal (y : Nat) (px : List Color) (s : State) : (s.writeRow y px).pal = s.pal := by
  unfold State.writeRow; split <;> rfl
@[simp] theorem State.writeRow_act (y : Nat) (px : List Color) (s : State) : (s.writeRow y px).act = s.act := by
  unfold State.writeRow; split <;> rfl
@[simp] theorem State.writeRow_fullRedraw (y : Nat) (px : List Color) (s : State) : (s.writeRow y px).fullRedraw = s.fullRedraw := by
  unfold State.writeRow; split <;> rfl
@[simp] theorem State.writeRow_irq (y : Nat) (px : List Color) (s : State) : (s.writeRow y px).irq = s.irq := by
  unfold State.writeRow; split <;> rfl
@[simp] theorem State.writeRow_deadline (y : Nat) (px : List Color) (s : State) : (s.writeRow y px).deadline = s.deadline := by
  unfold State.writeRow; split <;> rfl
@[simp] theorem State.writeRow_now (y : Nat) (px : List Color) (s : State) : (s.writeRow y px).now = s.now := by
  unfold State.writeRow; split <;> rfl
@[simp] theorem State.writeRow_mem (y : Nat) (px : List Color) (s : State) : (s.writeRow y px).mem = s.mem := by
  unfold State.writeRow; split <;> rfl
@[simp] theorem State.writeRow_dirty (y : Nat) (px : List Color) (s : State) : (s.writeRow y px).dirty = s.dirty := by
  unfold State.writeRow; split <;> rfl
@[simp] theorem State.writeRow_surfW (y : Nat) (px : List Color) (s : State) : (s.writeRow y px).surfW = s.surfW := by
  unfold State.writeRow; split <;> rfl
@[simp] theorem State.writeRow_surfH (y : Nat) (px : List Color) (s : State) : (s.writeRow y px).surfH = s.surfH := by
  unfold State.writeRow; split <;> rfl
@[simp] theorem State.writeRow_notes (y : Nat) (px : List Color) (s : State) : (s.writeRow y px).notes = s.notes := by
  unfold State.writeRow; split <;> rfl
@[simp] theorem State.writeRow_rdata (y : Nat) (px : List Color) (s : State) : (s.writeRow y px).rdata = s.rdata := by
  unfold State.writeRow; split <;> rfl
@[simp] theorem State.writeRow_pending (y : Nat) (px : List Color) (s : State) : (s.writeRow y px).pending = s.pending := by
  unfold State.writeRow; split <;> rfl
@[simp] theorem State.clearDirtyIn_vblPeriod (s : State) (lo hi : Nat) : (s.clearDirtyIn lo hi).vblPeriod = s.vblPeriod := rfl
@[simp] theorem State.clearDirtyIn_depth (s : State) (lo hi : Nat) : (s.clearDirtyIn lo hi).depth = s.depth := rfl
@[simp] theorem State.clearDirtyIn_width (s : State) (lo hi : Nat) : (s.clearDirtyIn lo hi).width = s.width := rfl
@[simp] theorem State.clearDirtyIn_height (s : State) (lo hi : Nat) : (s.clearDirtyIn lo hi).height = s.height := rfl
@[simp] theorem State.clearDirtyIn_vaddr (s : State) (lo hi : Nat) : (s.clearDirtyIn lo hi).vaddr = s.vaddr := rfl
@[simp] theorem State.clearDirtyIn_pal (s : State) (lo hi : Nat) : (s.clearDirtyIn lo hi).pal = s.pal := rfl
@[simp] theorem State.clearDirtyIn_act (s : State) (lo hi : Nat) : (s.clearDirtyIn lo hi).act = s.act := rfl
@[simp] theorem State.clearDirtyIn_fullRedraw (s : State) (lo hi : Nat) : (s.clearDirtyIn lo hi).fullRedraw = s.fullRedraw := rfl
@[simp] theorem State.clearDirtyIn_irq (s : State) (lo hi : Nat) : (s.clearDirtyIn lo hi).irq = s.irq := rfl
@[simp] theorem State.clearDirtyIn_deadline (s : State) (lo hi : Nat) : (s.clearDirtyIn lo hi).deadline = s.deadline := rfl
@[simp] theorem State.clearDirtyIn_now (s : State) (lo hi : Nat) : (s.clearDirtyIn lo hi).now = s.now := rfl
@[simp] theorem State.clearDirtyIn_mem (s : State) (lo hi : Nat) : (s.clearDirtyIn lo hi).mem = s.mem := rfl
@[simp] theorem State.clearDirtyIn_surfW (s : State) (lo hi : Nat) : (s.clearDirtyIn lo hi).surfW = s.surfW := rfl
@[simp] theorem State.clearDirtyIn_surfH (s : State) (lo hi : Nat) : (s.clearDirtyIn lo hi).surfH = s.surfH := rfl
@[simp] theorem State.clearDirtyIn_surf (s : State) (lo hi : Nat) : (s.clearDirtyIn lo hi).surf = s.surf := rfl
@[simp] theorem State.clearDirtyIn_notes (s : State) (lo hi : Nat) : (s.clearDirtyIn lo hi).notes = s.notes := rfl
@[simp] theorem State.clearDirtyIn_rdata (s : State) (lo hi : Nat) : (s.clearDirtyIn lo hi).rdata = s.rdata := rfl
@[simp] theorem State.clearDirtyIn_pending (s : State) (lo hi : Nat) : (s.clearDirtyIn lo hi).pending = s.pending := rfl

end Sys2Proof.Machine
end

