-- ==== Sys2Proof/Laws/Memory.lean ====
section
/-! SUPPORT. System memory: a read after a write, the canonical form, and the bytes of a guest write. -/

namespace Sys2Proof.Machine

@[simp] theorem Memory.read_nil (a : Nat) : Memory.read [] a = Memory.unlisted a := rfl

theorem Memory.read_cons (k a : Nat) (b : Byte) (m : Memory) :
    Memory.read ((k, b) :: m) a = if k = a then b else Memory.read m a := rfl

theorem Memory.read_insert (a c : Nat) (b : Byte) (m : Memory) :
    Memory.read (Memory.insert a b m) c = if a = c then b else Memory.read m c := by
  induction m with
  | nil => simp [Memory.insert, Memory.read_cons]
  | cons p m ih =>
    obtain ⟨k, q⟩ := p
    unfold Memory.insert
    by_cases h1 : a < k
    · rw [if_pos h1, Memory.read_cons]
    · rw [if_neg h1]
      by_cases h2 : a = k
      · subst h2
        rw [if_pos rfl, Memory.read_cons, Memory.read_cons]
        by_cases h3 : a = c <;> simp [h3]
      · rw [if_neg h2, Memory.read_cons, Memory.read_cons, ih]
        by_cases h3 : a = c
        · subst h3; rw [if_neg (Ne.symm h2), if_pos rfl, if_pos rfl]
        · rw [if_neg h3, if_neg h3]

theorem Memory.read_erase_of_ne (a c : Nat) (m : Memory) (h : a ≠ c) :
    Memory.read (Memory.erase a m) c = Memory.read m c := by
  induction m with
  | nil => rfl
  | cons p m ih =>
    obtain ⟨k, q⟩ := p
    unfold Memory.erase
    by_cases h1 : k = a
    · rw [if_pos h1, Memory.read_cons, if_neg (by omega)]
    · rw [if_neg h1, Memory.read_cons, Memory.read_cons, ih]

theorem Memory.read_of_not_listed (a : Nat) (m : Memory) (h : ∀ p ∈ m, p.1 ≠ a) :
    Memory.read m a = Memory.unlisted a := by
  induction m with
  | nil => rfl
  | cons p m ih =>
    obtain ⟨k, q⟩ := p
    rw [Memory.read_cons, if_neg (h (k, q) (by simp)), ih fun r hr => h r (by simp [hr])]

/-- The canonical form as a proposition: addresses strictly rising, no entry equal to the oracle's byte. -/
theorem Memory.wf_iff (m : Memory) :
    Memory.wf m = true ↔ m.Pairwise (fun p q => p.1 < q.1) ∧ ∀ p ∈ m, p.2 ≠ Memory.unlisted p.1 := by
  simp [Memory.wf]

@[simp] theorem Memory.wf_nil : Memory.wf [] = true := by simp [Memory.wf]

theorem Memory.read_erase_self (a : Nat) (m : Memory) (h : Memory.wf m = true) :
    Memory.read (Memory.erase a m) a = Memory.unlisted a := by
  rw [Memory.wf_iff] at h
  induction m with
  | nil => rfl
  | cons p m ih =>
    obtain ⟨k, q⟩ := p
    obtain ⟨hp, hq⟩ := h
    rw [List.pairwise_cons] at hp
    unfold Memory.erase
    split_ifs with h1
    · exact Memory.read_of_not_listed a m fun r hr => by have := hp.1 r hr; simp at this; omega
    · rw [Memory.read_cons, if_neg h1, ih ⟨hp.2, fun r hr => hq r (by simp [hr])⟩]

/-- A read after a write: the written byte at its address, everything else as before. -/
theorem Memory.read_write (a c : Nat) (b : Byte) (m : Memory) (h : Memory.wf m = true) :
    Memory.read (Memory.write a b m) c = if a = c then b else Memory.read m c := by
  unfold Memory.write
  split_ifs with h1 h2 h2
  · subst h2; rw [Memory.read_erase_self a m h, h1]
  · exact Memory.read_erase_of_ne a c m h2
  · rw [Memory.read_insert, if_pos h2]
  · rw [Memory.read_insert, if_neg h2]

theorem Memory.read_write_of_ne (a c : Nat) (b : Byte) (m : Memory) (h : a ≠ c) :
    Memory.read (Memory.write a b m) c = Memory.read m c := by
  unfold Memory.write
  split_ifs
  · exact Memory.read_erase_of_ne a c m h
  · rw [Memory.read_insert, if_neg h]

theorem Memory.mem_insert {a : Nat} {b : Byte} {m : Memory} {p : Host.Cell}
    (h : p ∈ Memory.insert a b m) : p = (a, b) ∨ p ∈ m := by
  induction m with
  | nil => simpa [Memory.insert] using h
  | cons q m ih =>
    obtain ⟨k, c⟩ := q
    unfold Memory.insert at h
    split_ifs at h with h1 h2
    · simpa using h
    · rcases List.mem_cons.1 h with h | h <;> simp [h]
    · rcases List.mem_cons.1 h with h | h
      · simp [h]
      · rcases ih h with h | h <;> simp [h]

theorem Memory.mem_erase {a : Nat} {m : Memory} {p : Host.Cell} (h : p ∈ Memory.erase a m) : p ∈ m := by
  induction m with
  | nil => simp [Memory.erase] at h
  | cons q m ih =>
    obtain ⟨k, c⟩ := q
    unfold Memory.erase at h
    split_ifs at h
    · simp [h]
    · rcases List.mem_cons.1 h with h | h
      · simp [h]
      · simp [ih h]

theorem Memory.wf_insert (a : Nat) (b : Byte) (m : Memory) (h : Memory.wf m = true)
    (hb : b ≠ Memory.unlisted a) : Memory.wf (Memory.insert a b m) = true := by
  rw [Memory.wf_iff] at h ⊢
  refine ⟨?_, fun p hp => ?_⟩
  · obtain ⟨h, -⟩ := h
    induction m with
    | nil => simp [Memory.insert]
    | cons q m ih =>
      obtain ⟨k, c⟩ := q
      rw [List.pairwise_cons] at h
      unfold Memory.insert
      split_ifs with h1 h2
      · rw [List.pairwise_cons, List.pairwise_cons]
        refine ⟨fun r hr => ?_, h⟩
        rcases List.mem_cons.1 hr with hr | hr
        · subst hr; exact h1
        · exact lt_trans h1 (h.1 r hr)
      · rw [List.pairwise_cons]; subst h2; exact ⟨h.1, h.2⟩
      · rw [List.pairwise_cons]
        refine ⟨fun r hr => ?_, ih h.2⟩
        rcases Memory.mem_insert hr with hr | hr
        · subst hr; show k < a; omega
        · exact h.1 r hr
  · rcases Memory.mem_insert hp with hp | hp
    · subst hp; exact hb
    · exact h.2 p hp

theorem Memory.wf_erase (a : Nat) (m : Memory) (h : Memory.wf m = true) :
    Memory.wf (Memory.erase a m) = true := by
  rw [Memory.wf_iff] at h ⊢
  refine ⟨?_, fun p hp => h.2 p (Memory.mem_erase hp)⟩
  obtain ⟨h, -⟩ := h
  induction m with
  | nil => simp [Memory.erase]
  | cons q m ih =>
    obtain ⟨k, c⟩ := q
    rw [List.pairwise_cons] at h
    unfold Memory.erase
    split_ifs
    · exact h.2
    · rw [List.pairwise_cons]; exact ⟨fun r hr => h.1 r (Memory.mem_erase hr), ih h.2⟩

/-- Every write keeps the canonical form. -/
theorem Memory.wf_write (a : Nat) (b : Byte) (m : Memory) (h : Memory.wf m = true) :
    Memory.wf (Memory.write a b m) = true := by
  unfold Memory.write
  split_ifs with h1
  · exact Memory.wf_erase a m h
  · exact Memory.wf_insert a b m h h1

theorem Memory.reset_wf : Memory.wf State.reset.mem = true := Memory.wf_nil

/-! ## A guest write (R220) -/

@[simp] theorem State.guestWrite_nil (a : Nat) (s : State) : s.guestWrite a [] = s := rfl

@[simp] theorem State.guestWrite_cons (a : Nat) (b : Byte) (bs : List Byte) (s : State) :
    s.guestWrite a (b :: bs) = (s.guestWriteByte a b).guestWrite (a + 1) bs := rfl

/-- A guest write changes system memory and the dirty log, nothing else. -/
theorem State.guestWrite_frame (a : Nat) (bs : List Byte) (s : State) :
    s.guestWrite a bs =
      { s with mem := (s.guestWrite a bs).mem, dirty := (s.guestWrite a bs).dirty } := by
  induction bs generalizing a s with
  | nil => rfl
  | cons b bs ih => rw [State.guestWrite_cons, ih]; rfl

theorem State.guestWrite_wf (a : Nat) (bs : List Byte) (s : State) (h : Memory.wf s.mem = true) :
    Memory.wf (s.guestWrite a bs).mem = true := by
  induction bs generalizing a s with
  | nil => exact h
  | cons b bs ih => exact ih (a + 1) (s.guestWriteByte a b) (Memory.wf_write a b s.mem h)

/-- Outside its bytes a guest write leaves system memory as it was. -/
theorem State.guestWrite_read_other (a c : Nat) (bs : List Byte) (s : State)
    (h : c < a ∨ a + bs.length ≤ c) : Memory.read (s.guestWrite a bs).mem c = Memory.read s.mem c := by
  induction bs generalizing a s with
  | nil => rfl
  | cons b bs ih =>
    rw [List.length_cons] at h
    rw [State.guestWrite_cons, ih (a + 1) (s.guestWriteByte a b) (by omega)]
    exact Memory.read_write_of_ne a c b s.mem (by omega)

/-- Byte `k` of a guest write is what address `a + k` reads as afterwards. -/
theorem State.guestWrite_read (a k : Nat) (bs : List Byte) (s : State) (h : Memory.wf s.mem = true)
    (hk : k < bs.length) : Memory.read (s.guestWrite a bs).mem (a + k) = bs[k] := by
  induction bs generalizing a k s with
  | nil => simp at hk
  | cons b bs ih =>
    rw [State.guestWrite_cons]
    cases k with
    | zero =>
      rw [State.guestWrite_read_other (a + 1) (a + 0) bs _ (by omega), State.guestWriteByte_mem,
        Memory.read_write a _ b _ h]
      simp
    | succ k =>
      have := ih (a + 1) k (s.guestWriteByte a b) (Memory.wf_write a b s.mem h) (by simpa using hk)
      rw [show a + (k + 1) = a + 1 + k by omega, this]
      simp

end Sys2Proof.Machine
end

