-- ==== Sys2Proof/Laws/DirtyLog.lean ====
section
/-! SUPPORT. The dirty log as a set of addresses, and its canonical form. -/

namespace Sys2Proof.Machine

@[simp] theorem mem_dirtyInsert (a c : Nat) (l : List Nat) : c ∈ dirtyInsert a l ↔ c = a ∨ c ∈ l := by
  induction l with
  | nil => simp [dirtyInsert]
  | cons k l ih =>
    unfold dirtyInsert
    split_ifs with h1 h2
    · simp
    · subst h2; simp
    · simp only [List.mem_cons, ih]; tauto

theorem dirtyWf_iff (l : List Nat) : dirtyWf l = true ↔ l.Pairwise (· < ·) := by simp [dirtyWf]

theorem dirtyWf_insert (a : Nat) (l : List Nat) (h : dirtyWf l = true) : dirtyWf (dirtyInsert a l) = true := by
  rw [dirtyWf_iff] at h ⊢
  induction l with
  | nil => simp [dirtyInsert]
  | cons k l ih =>
    rw [List.pairwise_cons] at h
    unfold dirtyInsert
    split_ifs with h1 h2
    · rw [List.pairwise_cons]
      refine ⟨fun r hr => ?_, List.pairwise_cons.2 h⟩
      rcases List.mem_cons.1 hr with hr | hr
      · omega
      · exact lt_trans h1 (h.1 r hr)
    · exact List.pairwise_cons.2 h
    · rw [List.pairwise_cons]
      refine ⟨fun r hr => ?_, ih h.2⟩
      rcases (mem_dirtyInsert a r l).1 hr with hr | hr
      · omega
      · exact h.1 r hr

/-- A guest write logs exactly its own addresses beside those already logged (R220). -/
theorem State.mem_guestWrite_dirty (a c : Nat) (bs : List Byte) (s : State) :
    c ∈ (s.guestWrite a bs).dirty ↔ c ∈ s.dirty ∨ (a ≤ c ∧ c < a + bs.length) := by
  induction bs generalizing a s with
  | nil => simp
  | cons b bs ih =>
    rw [State.guestWrite_cons, ih, State.guestWriteByte_dirty, mem_dirtyInsert, List.length_cons]
    constructor
    · rintro ((h | h) | h)
      · right; omega
      · exact .inl h
      · right; omega
    · rintro (h | h)
      · exact .inl (.inr h)
      · by_cases hc : c = a
        · exact .inl (.inl hc)
        · right; omega

theorem State.guestWrite_dirtyWf (a : Nat) (bs : List Byte) (s : State) (h : dirtyWf s.dirty = true) :
    dirtyWf (s.guestWrite a bs).dirty = true := by
  induction bs generalizing a s with
  | nil => exact h
  | cons b bs ih => exact ih (a + 1) (s.guestWriteByte a b) (dirtyWf_insert a s.dirty h)

/-- The snapshot of a query is the logged part of the range (R222). -/
theorem State.mem_dirtyIn (s : State) (lo hi c : Nat) :
    c ∈ s.dirtyIn lo hi ↔ c ∈ s.dirty ∧ lo ≤ c ∧ c < hi := by
  simp [State.dirtyIn]

/-- A query clears the logged part of the range and keeps the rest (R222). -/
theorem State.mem_clearDirtyIn (s : State) (lo hi c : Nat) :
    c ∈ (s.clearDirtyIn lo hi).dirty ↔ c ∈ s.dirty ∧ ¬(lo ≤ c ∧ c < hi) := by
  rw [State.clearDirtyIn, List.mem_filter]
  simp only [Bool.not_eq_true', Bool.and_eq_false_iff, decide_eq_false_iff_not, not_and_or]

theorem State.clearDirtyIn_dirtyWf (s : State) (lo hi : Nat) (h : dirtyWf s.dirty = true) :
    dirtyWf (s.clearDirtyIn lo hi).dirty = true := by
  rw [dirtyWf_iff] at h ⊢
  exact h.sublist List.filter_sublist

/-- Clearing a range that holds no logged byte changes nothing. -/
theorem State.clearDirtyIn_of_clean (s : State) (lo hi : Nat) (h : ∀ b ∈ s.dirty, ¬(lo ≤ b ∧ b < hi)) :
    s.clearDirtyIn lo hi = s := by
  have : s.dirty.filter (fun a => !(decide (lo ≤ a) && decide (a < hi))) = s.dirty := by
    rw [List.filter_eq_self]
    intro b hb
    simpa only [Bool.not_eq_true', Bool.and_eq_false_iff, decide_eq_false_iff_not, not_and_or] using h b hb
  unfold State.clearDirtyIn
  rw [this]

end Sys2Proof.Machine
end

