-- ==== Sys2Proof/Laws/Mode.lean ====
section
/-! SUPPORT. The mode validation, the dispatch table and the `VADDR` write: what each can do, once. -/

namespace Sys2Proof.Machine

/-- The validation predicate clause by clause (R142). -/
theorem validMode_iff (d w h a : Word) :
    validMode d w h a = true ↔
      a ≠ 0 ∧ a.toNat % 2 = 0 ∧ (d = 1 ∨ d = 2 ∨ d = 4 ∨ d = 8) ∧
        w.toNat % 16 = 0 ∧ 320 ≤ w.toNat ∧ w.toNat ≤ 2048 ∧ 1 ≤ h.toNat ∧ h.toNat ≤ 2048 := by
  simp [validMode]; tauto

/-- The dispatch table has a row for each depth that passes the validation, and the row's routine reads that
many planes (R113). -/
theorem dispatch_of_valid_depth (d : Word) (h : d = 1 ∨ d = 2 ∨ d = 4 ∨ d = 8) :
    ∃ r, dispatch d = some r ∧ routineDepth r = d.toNat := by
  rcases h with rfl | rfl | rfl | rfl
  exacts [⟨_, rfl, rfl⟩, ⟨_, rfl, rfl⟩, ⟨_, rfl, rfl⟩, ⟨_, rfl, rfl⟩]

/-- A latch captured from a valid configuration holds a legal mode (R39). -/
theorem latchMode_legal {d w h a : Word} {r : Routine} (hv : validMode d w h a = true)
    (hr : dispatch d = some r) : (latchMode d w h a r).Legal := by
  obtain ⟨ha, he, hd, hw, h1, h2, h3, h4⟩ := (validMode_iff d w h a).1 hv
  obtain ⟨r', hr', hp⟩ := dispatch_of_valid_depth d hd
  obtain rfl : r = r' := Option.some.inj (hr.symm.trans hr')
  refine ⟨?_, hw, ⟨h1, h2⟩, ⟨h3, h4⟩, ha, he, rfl, hp⟩
  rcases hd with rfl | rfl | rfl | rfl <;> simp [latchMode]

/-- All that a `VADDR` write can do (R141). -/
theorem writeVaddr_cases (v : Word) (s : State) :
    (v = 0 ∧ writeVaddr v s = { s with vaddr := 0, act := none }) ∨
    (∃ r, v ≠ 0 ∧ validMode s.depth s.width s.height v = true ∧ dispatch s.depth = some r ∧
      writeVaddr v s = { s with
        vaddr := v, act := some (latchMode s.depth s.width s.height v r), fullRedraw := true }) ∨
    (v ≠ 0 ∧ validMode s.depth s.width s.height v = false ∧
      writeVaddr v s = { s with depth := 0, width := 0, height := 0, vaddr := 0, act := none }) := by
  unfold writeVaddr
  by_cases hv : v = 0
  · subst hv
    exact .inl ⟨rfl, rfl⟩
  · right
    simp only [if_neg hv]
    by_cases hb : validMode s.depth s.width s.height v = true
    · obtain ⟨r, hr, -⟩ := dispatch_of_valid_depth _ ((validMode_iff _ _ _ _).1 hb).2.2.1
      refine .inl ⟨r, hv, hb, hr, ?_⟩
      have hb' : validMode (s.regStore .vaddr v).depth (s.regStore .vaddr v).width
        (s.regStore .vaddr v).height v = true := hb
      have hr' : dispatch (s.regStore .vaddr v).depth = some r := hr
      rw [if_pos hb', hr']
      rfl
    · refine .inr ⟨hv, by simpa using hb, ?_⟩
      have hb' : ¬ validMode (s.regStore .vaddr v).depth (s.regStore .vaddr v).width
        (s.regStore .vaddr v).height v = true := hb
      rw [if_neg hb']
      rfl

end Sys2Proof.Machine
end

