-- ==== Sys2Proof/Laws/PerInstr.lean ====
section
/-! SUPPORT. Facts about every instruction as syntax, one lemma per constructor. -/

namespace Sys2Proof.Laws

/-- The descriptor that encodes an instruction other than `REFUSE` has its reserved field 0 (R101). -/
def ReservedBitsClear.Statement (i : Instr) : Prop :=
  (∀ d, i ≠ .refuse d) → ∀ e, encode i = some e → descRsv e.desc = 0

theorem ReservedBitsClear.rdVblAck : ReservedBitsClear.Statement .rdVblAck := by
  intro _ e h
  cases h
  exact descRsv_mkDesc _ _ _ _

theorem ReservedBitsClear.wrVblAck (data : Word) : ReservedBitsClear.Statement (.wrVblAck data) := by
  intro _ e h
  cases h
  exact descRsv_mkDesc _ _ _ _

theorem ReservedBitsClear.rdVblPeriod : ReservedBitsClear.Statement .rdVblPeriod := by
  intro _ e h
  cases h
  exact descRsv_mkDesc _ _ _ _

theorem ReservedBitsClear.wrVblPeriod (data : Word) : ReservedBitsClear.Statement (.wrVblPeriod data) := by
  intro _ e h
  cases h
  exact descRsv_mkDesc _ _ _ _

theorem ReservedBitsClear.rdDepth : ReservedBitsClear.Statement .rdDepth := by
  intro _ e h
  cases h
  exact descRsv_mkDesc _ _ _ _

theorem ReservedBitsClear.wrDepth (data : Word) : ReservedBitsClear.Statement (.wrDepth data) := by
  intro _ e h
  cases h
  exact descRsv_mkDesc _ _ _ _

theorem ReservedBitsClear.rdWidth : ReservedBitsClear.Statement .rdWidth := by
  intro _ e h
  cases h
  exact descRsv_mkDesc _ _ _ _

theorem ReservedBitsClear.wrWidth (data : Word) : ReservedBitsClear.Statement (.wrWidth data) := by
  intro _ e h
  cases h
  exact descRsv_mkDesc _ _ _ _

theorem ReservedBitsClear.rdHeight : ReservedBitsClear.Statement .rdHeight := by
  intro _ e h
  cases h
  exact descRsv_mkDesc _ _ _ _

theorem ReservedBitsClear.wrHeight (data : Word) : ReservedBitsClear.Statement (.wrHeight data) := by
  intro _ e h
  cases h
  exact descRsv_mkDesc _ _ _ _

theorem ReservedBitsClear.rdVaddr : ReservedBitsClear.Statement .rdVaddr := by
  intro _ e h
  cases h
  exact descRsv_mkDesc _ _ _ _

theorem ReservedBitsClear.wrVaddr (data : Word) : ReservedBitsClear.Statement (.wrVaddr data) := by
  intro _ e h
  cases h
  exact descRsv_mkDesc _ _ _ _

theorem ReservedBitsClear.rdRegOor (off : Offset) : ReservedBitsClear.Statement (.rdRegOor off) := by
  intro _ e h
  cases h
  exact descRsv_mkDesc _ _ _ _

theorem ReservedBitsClear.wrRegOor (off : Offset) (data : Word) : ReservedBitsClear.Statement (.wrRegOor off data) := by
  intro _ e h
  cases h
  exact descRsv_mkDesc _ _ _ _

theorem ReservedBitsClear.rdRegMisaligned (off : Offset) : ReservedBitsClear.Statement (.rdRegMisaligned off) := by
  intro _ e h
  cases h
  exact descRsv_mkDesc _ _ _ _

theorem ReservedBitsClear.wrRegMisaligned (off : Offset) (data : Word) : ReservedBitsClear.Statement (.wrRegMisaligned off data) := by
  intro _ e h
  cases h
  exact descRsv_mkDesc _ _ _ _

theorem ReservedBitsClear.rdRegBadsize (sz : BitVec 2) (off : Offset) : ReservedBitsClear.Statement (.rdRegBadsize sz off) := by
  intro _ e h
  cases h
  exact descRsv_mkDesc _ _ _ _

theorem ReservedBitsClear.wrRegBadsize (sz : BitVec 2) (off : Offset) (data : Word) : ReservedBitsClear.Statement (.wrRegBadsize sz off data) := by
  intro _ e h
  cases h
  exact descRsv_mkDesc _ _ _ _

theorem ReservedBitsClear.palRead (ix : BitVec 8) : ReservedBitsClear.Statement (.palRead ix) := by
  intro _ e h
  cases h
  exact descRsv_mkDesc _ _ _ _

theorem ReservedBitsClear.palWrite (ix : BitVec 8) (data : Word) : ReservedBitsClear.Statement (.palWrite ix data) := by
  intro _ e h
  cases h
  exact descRsv_mkDesc _ _ _ _

theorem ReservedBitsClear.palReadOor (off : Offset) : ReservedBitsClear.Statement (.palReadOor off) := by
  intro _ e h
  cases h
  exact descRsv_mkDesc _ _ _ _

theorem ReservedBitsClear.palWriteOor (off : Offset) (data : Word) : ReservedBitsClear.Statement (.palWriteOor off data) := by
  intro _ e h
  cases h
  exact descRsv_mkDesc _ _ _ _

theorem ReservedBitsClear.palReadMisaligned (off : Offset) : ReservedBitsClear.Statement (.palReadMisaligned off) := by
  intro _ e h
  cases h
  exact descRsv_mkDesc _ _ _ _

theorem ReservedBitsClear.palWriteMisaligned (off : Offset) (data : Word) : ReservedBitsClear.Statement (.palWriteMisaligned off data) := by
  intro _ e h
  cases h
  exact descRsv_mkDesc _ _ _ _

theorem ReservedBitsClear.palReadBadsize (sz : BitVec 2) (off : Offset) : ReservedBitsClear.Statement (.palReadBadsize sz off) := by
  intro _ e h
  cases h
  exact descRsv_mkDesc _ _ _ _

theorem ReservedBitsClear.palWriteBadsize (sz : BitVec 2) (off : Offset) (data : Word) : ReservedBitsClear.Statement (.palWriteBadsize sz off data) := by
  intro _ e h
  cases h
  exact descRsv_mkDesc _ _ _ _

theorem ReservedBitsClear.redraw : ReservedBitsClear.Statement .redraw := by
  intro _ e h
  cases h
  exact descRsv_mkDesc _ _ _ _

theorem ReservedBitsClear.fire : ReservedBitsClear.Statement .fire := by
  intro _ e h
  cases h
  exact descRsv_mkDesc _ _ _ _

theorem ReservedBitsClear.reset : ReservedBitsClear.Statement .reset := by
  intro _ e h
  cases h
  exact descRsv_mkDesc _ _ _ _

theorem ReservedBitsClear.memw (addr : Nat) (b : Byte) (bs : List Byte) : ReservedBitsClear.Statement (.memw addr b bs) := by
  intro _ e h
  cases h
  exact descRsv_mkDesc _ _ _ _

theorem ReservedBitsClear.advance (t : Nat) : ReservedBitsClear.Statement (.advance t) := by
  intro _ e h
  cases h
  exact descRsv_mkDesc _ _ _ _

theorem ReservedBitsClear.refuse (desc : Word) : ReservedBitsClear.Statement (.refuse desc) := by
  intro h
  exact absurd rfl (h desc)

theorem ReservedBitsClear.decode1 (a y w : Nat) : ReservedBitsClear.Statement (.decode1 a y w) := by
  intro _ e h
  cases h

theorem ReservedBitsClear.decode2 (a y w : Nat) : ReservedBitsClear.Statement (.decode2 a y w) := by
  intro _ e h
  cases h

theorem ReservedBitsClear.decode4 (a y w : Nat) : ReservedBitsClear.Statement (.decode4 a y w) := by
  intro _ e h
  cases h

theorem ReservedBitsClear.decode8 (a y w : Nat) : ReservedBitsClear.Statement (.decode8 a y w) := by
  intro _ e h
  cases h

end Sys2Proof.Laws
end

