-- ==== Sys2Proof/Laws/Surface.lean ====
section
/-! SUPPORT. The display surface: what a drawn row and a resize do to a pixel, and the canonical form. -/

namespace Sys2Proof.Machine

@[simp] theorem Surface.row_nil (y : Nat) : Surface.row [] y = [] := rfl

theorem Surface.row_cons (k y : Nat) (r : List Color) (m : Surface) :
    Surface.row ((k, r) :: m) y = if k = y then r else Surface.row m y := rfl

theorem Surface.row_insert (y z : Nat) (r : List Color) (m : Surface) :
    Surface.row (Surface.insert y r m) z = if y = z then r else Surface.row m z := by
  induction m with
  | nil => simp [Surface.insert, Surface.row_cons]
  | cons p m ih =>
    obtain ⟨k, q⟩ := p
    unfold Surface.insert
    by_cases h1 : y < k
    · rw [if_pos h1, Surface.row_cons]
    · rw [if_neg h1]
      by_cases h2 : y = k
      · subst h2
        rw [if_pos rfl, Surface.row_cons, Surface.row_cons]
        by_cases h3 : y = z <;> simp [h3]
      · rw [if_neg h2, Surface.row_cons, Surface.row_cons, ih]
        by_cases h3 : y = z
        · subst h3; rw [if_neg (Ne.symm h2), if_pos rfl, if_pos rfl]
        · rw [if_neg h3, if_neg h3]

/-- The canonical form of the drawn part as a proposition. -/
theorem surfaceWf_iff (w h : Nat) (m : Surface) :
    surfaceWf w h m = true ↔
      m.Pairwise (fun p q => p.1 < q.1) ∧ ∀ p ∈ m, p.1 < h ∧ p.2.length ≤ w ∧ p.2 ≠ [] := by
  simp [surfaceWf, and_assoc]

theorem Surface.row_of_not_listed (y : Nat) (m : Surface) (h : ∀ p ∈ m, p.1 ≠ y) : Surface.row m y = [] := by
  induction m with
  | nil => rfl
  | cons p m ih =>
    obtain ⟨k, q⟩ := p
    rw [Surface.row_cons, if_neg (h (k, q) (by simp)), ih fun r hr => h r (by simp [hr])]

theorem Surface.mem_insert {y : Nat} {r : List Color} {m : Surface} {p : Nat × List Color}
    (h : p ∈ Surface.insert y r m) : p = (y, r) ∨ p ∈ m := by
  induction m with
  | nil => simpa [Surface.insert] using h
  | cons q m ih =>
    obtain ⟨k, c⟩ := q
    unfold Surface.insert at h
    split_ifs at h with h1 h2
    · simpa using h
    · rcases List.mem_cons.1 h with h | h <;> simp [h]
    · rcases List.mem_cons.1 h with h | h
      · simp [h]
      · rcases ih h with h | h <;> simp [h]

theorem surfaceWf_insert (w h y : Nat) (r : List Color) (m : Surface) (hm : surfaceWf w h m = true)
    (hy : y < h) (hr : r.length ≤ w) (hn : r ≠ []) : surfaceWf w h (Surface.insert y r m) = true := by
  rw [surfaceWf_iff] at hm ⊢
  refine ⟨?_, fun p hp => ?_⟩
  · obtain ⟨hm, -⟩ := hm
    induction m with
    | nil => simp [Surface.insert]
    | cons q m ih =>
      obtain ⟨k, c⟩ := q
      rw [List.pairwise_cons] at hm
      unfold Surface.insert
      split_ifs with h1 h2
      · rw [List.pairwise_cons, List.pairwise_cons]
        refine ⟨fun t ht => ?_, hm⟩
        rcases List.mem_cons.1 ht with ht | ht
        · subst ht; exact h1
        · exact lt_trans h1 (hm.1 t ht)
      · rw [List.pairwise_cons]; subst h2; exact ⟨hm.1, hm.2⟩
      · rw [List.pairwise_cons]
        refine ⟨fun t ht => ?_, ih hm.2⟩
        rcases Surface.mem_insert ht with ht | ht
        · subst ht; show k < y; omega
        · exact hm.1 t ht
  · rcases Surface.mem_insert hp with hp | hp
    · subst hp; exact ⟨hy, hr, hn⟩
    · exact hm.2 p hp

theorem Surface.mem_cut {w h : Nat} {m : Surface} {p : Nat × List Color} (hp : p ∈ Surface.cut w h m) :
    ∃ r, (p.1, r) ∈ m ∧ p.2 = r.take w ∧ p.1 < h ∧ p.2 ≠ [] := by
  induction m with
  | nil => simp [Surface.cut] at hp
  | cons q m ih =>
    obtain ⟨k, c⟩ := q
    unfold Surface.cut at hp
    split_ifs at hp with h1
    · rcases List.mem_cons.1 hp with hp | hp
      · subst hp; exact ⟨c, by simp, rfl, h1⟩
      · obtain ⟨r, hr, hrest⟩ := ih hp; exact ⟨r, by simp [hr], hrest⟩
    · obtain ⟨r, hr, hrest⟩ := ih hp; exact ⟨r, by simp [hr], hrest⟩

/-- A resize leaves the drawn part in canonical form for the new size. -/
theorem surfaceWf_cut (w h : Nat) (m : Surface) (hm : m.Pairwise fun p q => p.1 < q.1) :
    surfaceWf w h (Surface.cut w h m) = true := by
  rw [surfaceWf_iff]
  refine ⟨?_, fun p hp => ?_⟩
  · induction m with
    | nil => simp [Surface.cut]
    | cons q m ih =>
      obtain ⟨k, c⟩ := q
      rw [List.pairwise_cons] at hm
      unfold Surface.cut
      split_ifs
      · rw [List.pairwise_cons]
        refine ⟨fun t ht => ?_, ih hm.2⟩
        obtain ⟨r, hr, -⟩ := Surface.mem_cut ht
        exact hm.1 (t.1, r) hr
      · exact ih hm.2
  · obtain ⟨r, -, h1, h2, h3⟩ := Surface.mem_cut hp
    refine ⟨h2, ?_, h3⟩
    rw [h1, List.length_take]; omega

/-- A resize keeps the drawn pixels that lie inside the new size. -/
theorem Surface.row_cut (w h y : Nat) (m : Surface) (hm : m.Pairwise fun p q => p.1 < q.1) (hy : y < h) :
    Surface.row (Surface.cut w h m) y = (Surface.row m y).take w := by
  induction m with
  | nil => simp [Surface.cut]
  | cons q m ih =>
    obtain ⟨k, c⟩ := q
    rw [List.pairwise_cons] at hm
    unfold Surface.cut
    by_cases hk : k = y
    · subst hk
      by_cases ht : c.take w = []
      · rw [if_neg (by simp [ht]), ih hm.2, Surface.row_cons, if_pos rfl, ht]
        rw [Surface.row_of_not_listed k m fun p hp => by have := hm.1 p hp; simp at this; omega]
        simp
      · rw [if_pos ⟨hy, ht⟩, Surface.row_cons, Surface.row_cons, if_pos rfl, if_pos rfl]
    · split_ifs
      · rw [Surface.row_cons, Surface.row_cons, if_neg hk, if_neg hk, ih hm.2]
      · rw [Surface.row_cons, if_neg hk, ih hm.2]

theorem State.pixel_inside (s : State) (x y : Nat) (hx : x < s.surfW) (hy : y < s.surfH) :
    s.pixel x y = some (((Surface.row s.surf y)[x]?).getD (Config.initPixel x y)) := if_pos ⟨hx, hy⟩

theorem State.pixel_outside (s : State) (x y : Nat) (h : ¬(x < s.surfW ∧ y < s.surfH)) :
    s.pixel x y = none := if_neg h

theorem State.writeRow_surf (y : Nat) (px : List Color) (s : State)
    (hw : y < s.surfH ∧ s.drawnRow y px ≠ []) :
    (s.writeRow y px).surf = Surface.insert y (s.drawnRow y px) s.surf := by
  unfold State.writeRow; rw [if_pos hw]

theorem State.writeRow_of_not (y : Nat) (px : List Color) (s : State)
    (hw : ¬(y < s.surfH ∧ s.drawnRow y px ≠ [])) : s.writeRow y px = s := if_neg hw

/-- A row write leaves every pixel of another row, and every pixel past its columns, as it was (R191). -/
theorem State.pixel_writeRow_other (y : Nat) (px : List Color) (s : State) (x z : Nat)
    (h : z ≠ y ∨ px.length ≤ x) : (s.writeRow y px).pixel x z = s.pixel x z := by
  by_cases hw : y < s.surfH ∧ s.drawnRow y px ≠ []
  · by_cases hi : x < s.surfW ∧ z < s.surfH
    · rw [State.pixel_inside _ x z (by simpa using hi.1) (by simpa using hi.2),
        State.pixel_inside s x z hi.1 hi.2, State.writeRow_surf y px s hw, Surface.row_insert]
      by_cases hzy : y = z
      · subst hzy
        rw [if_pos rfl, State.drawnRow, List.getElem?_take_of_lt hi.1,
          List.getElem?_append_right (by omega), List.getElem?_drop,
          show px.length + (x - px.length) = x by omega]
      · rw [if_neg hzy]
    · rw [State.pixel_outside _ x z (by simpa using hi), State.pixel_outside s x z hi]
  · rw [State.writeRow_of_not y px s hw]

/-- A row write gives the pixels of its row their new value, in the columns the surface has (R191). -/
theorem State.pixel_writeRow (y : Nat) (px : List Color) (s : State) (x : Nat)
    (hp : x < px.length) (hx : x < s.surfW) (hy : y < s.surfH) :
    (s.writeRow y px).pixel x y = some px[x] := by
  have hw : y < s.surfH ∧ s.drawnRow y px ≠ [] := by
    refine ⟨hy, fun h0 => ?_⟩
    have : (s.drawnRow y px).length = 0 := by rw [h0]; rfl
    simp only [State.drawnRow, List.length_take, List.length_append] at this
    omega
  rw [State.pixel_inside _ x y (by simpa using hx) (by simpa using hy), State.writeRow_surf y px s hw,
    Surface.row_insert, if_pos rfl, State.drawnRow, List.getElem?_take_of_lt hx,
    List.getElem?_append_left hp, List.getElem?_eq_getElem hp]
  rfl

/-- A row write keeps the canonical form of the drawn part. -/
theorem State.writeRow_surfaceWf (y : Nat) (px : List Color) (s : State)
    (h : surfaceWf s.surfW s.surfH s.surf = true) :
    surfaceWf s.surfW s.surfH (s.writeRow y px).surf = true := by
  by_cases hw : y < s.surfH ∧ s.drawnRow y px ≠ []
  · rw [State.writeRow_surf y px s hw]
    refine surfaceWf_insert _ _ _ _ _ h hw.1 ?_ hw.2
    simp only [State.drawnRow, List.length_take]; omega
  · rw [State.writeRow_of_not y px s hw]; exact h

/-- A resize keeps every pixel that lies inside both sizes. -/
theorem State.pixel_setSurfaceSize (s : State) (w h x y : Nat) (hm : s.surf.Pairwise fun p q => p.1 < q.1)
    (hx : x < w) (hy : y < h) (hx' : x < s.surfW) (hy' : y < s.surfH) :
    (s.setSurfaceSize w h).pixel x y = s.pixel x y := by
  rw [State.pixel_inside _ x y (by simpa using hx) (by simpa using hy), State.pixel_inside s x y hx' hy',
    State.setSurfaceSize_surf, Surface.row_cut _ _ _ _ hm hy, List.getElem?_take_of_lt hx]

end Sys2Proof.Machine
end

