-- ==== Sys2Proof/Laws/PlanarDecoder.lean ====
section
/-! SUPPORT. The planar decoder: the pixels of a scanline, column by column, and what a routine changes. -/

namespace Sys2Proof.Machine

@[simp] theorem groupPixels_length (s : State) (ws : List (BitVec 16)) : (groupPixels s ws).length = 16 := by
  simp [groupPixels]

/-- A scanline has 16 pixels for each group (R200). -/
@[simp] theorem scanlinePixels_length (s : State) (d a W : Nat) :
    (scanlinePixels s d a W).length = 16 * (W / 16) := by
  simp [scanlinePixels, List.length_flatMap, Nat.mul_comm]

/-- The plane word is the 16-bit big-endian read of R73: no bit of the read is lost. -/
theorem memRead_two (s : State) (a : Nat) :
    s.memRead a 2 = (Memory.read s.mem a).toNat * 256 + (Memory.read s.mem (a + 1)).toNat := by
  simp [State.memRead, List.range_succ, Nat.shiftLeft_eq]

theorem memRead_two_lt (s : State) (a : Nat) : s.memRead a 2 < 65536 := by
  rw [memRead_two]
  have := (Memory.read s.mem a).isLt
  have := (Memory.read s.mem (a + 1)).isLt
  omega

theorem planeWord_getLsbD (s : State) (d a g p b : Nat) (hb : b < 16) :
    (planeWord s d a g p).getLsbD b = (s.memRead (a + 2 * (g * d + p)) 2).testBit b := by
  rw [planeWord, BitVec.getLsbD_ofNat]
  simp only [hb, decide_true, Bool.true_and]

/-- The index that a group's plane words give at column `x` of the scanline is the one R200 states. -/
theorem gatherIndex_planeWords (s : State) (d a x : Nat) :
    gatherIndex (planeWords s d a (x / 16)) (15 - x % 16) = pixelIndex s d a x := by
  unfold gatherIndex pixelIndex
  congr 1
  have hl : (planeWords s d a (x / 16)).length = d := by simp [planeWords]
  rw [hl]
  apply List.map_congr_left
  intro p hp
  have hp' : p < d := List.mem_range.1 hp
  have : (planeWords s d a (x / 16)).getD p 0 = planeWord s d a (x / 16) p := by
    simp [planeWords, List.getD_eq_getElem?_getD, List.getElem?_map, List.getElem?_range hp']
  rw [this, planeWord_getLsbD s d a (x / 16) p (15 - x % 16) (by omega)]

/-- Pixel `16 * g + i` of blocks of 16 is pixel `i` of block `g`. -/
theorem getElem?_flatMap_sixteen {α : Type} (f : Nat → List α) (hf : ∀ g, (f g).length = 16) (n x : Nat)
    (hx : x < 16 * n) : ((List.range n).flatMap f)[x]? = (f (x / 16))[x % 16]? := by
  induction n with
  | zero => omega
  | succ n ih =>
    have hlen : ((List.range n).flatMap f).length = 16 * n := by
      simp [List.length_flatMap, hf, Nat.mul_comm]
    rw [List.range_succ, List.flatMap_append]
    by_cases h : x < 16 * n
    · rw [List.getElem?_append_left (by omega), ih h]
    · rw [List.getElem?_append_right (by omega), hlen]
      simp only [List.flatMap_cons, List.flatMap_nil, List.append_nil]
      rw [show x / 16 = n by omega, show x - 16 * n = x % 16 by omega]

/-- Column `x` of a decoded scanline is the palette entry of its index (R190, R191, R200). -/
theorem scanlinePixels_getElem? (s : State) (d a W x : Nat) (hx : x < 16 * (W / 16)) :
    (scanlinePixels s d a W)[x]? = some (s.palRead (pixelIndex s d a x)) := by
  unfold scanlinePixels
  rw [getElem?_flatMap_sixteen _ (fun g => groupPixels_length s (planeWords s d a g)) _ _ hx]
  have h : x % 16 < 16 := Nat.mod_lt _ (by omega)
  simp [groupPixels, List.getElem?_range h, gatherIndex_planeWords]

/-- A routine changes the drawn part of the surface and nothing else (R199). -/
theorem runRoutine_eq (r : Routine) (a y w : Nat) (s : State) :
    runRoutine r a y w s = s.writeRow y (scanlinePixels s (routineDepth r) a w) := by
  cases r <;> rfl

theorem State.writeRow_frame (y : Nat) (px : List Color) (s : State) :
    s.writeRow y px = { s with surf := (s.writeRow y px).surf } := by
  unfold State.writeRow; split <;> rfl

theorem runRoutine_frame (r : Routine) (a y w : Nat) (s : State) :
    runRoutine r a y w s = { s with surf := (runRoutine r a y w s).surf } := by
  rw [runRoutine_eq]; exact State.writeRow_frame _ _ s

/-- A routine draws row `y` (R190). -/
theorem runRoutine_pixel (r : Routine) (a y w : Nat) (s : State) (x : Nat) (hx : x < 16 * (w / 16))
    (hw : x < s.surfW) (hy : y < s.surfH) :
    (runRoutine r a y w s).pixel x y = some (s.palRead (pixelIndex s (routineDepth r) a x)) := by
  rw [runRoutine_eq, State.pixel_writeRow y _ s x (by simpa using hx) hw hy]
  have := scanlinePixels_getElem? s (routineDepth r) a w x hx
  rw [List.getElem?_eq_getElem (by simpa using hx)] at this
  exact this

/-- A routine leaves every other row as it was (R191). -/
theorem runRoutine_pixel_other (r : Routine) (a y w : Nat) (s : State) (x z : Nat) (hz : z ≠ y) :
    (runRoutine r a y w s).pixel x z = s.pixel x z := by
  rw [runRoutine_eq, State.pixel_writeRow_other y _ s x z (.inl hz)]

/-- The index depends on system memory only through the bytes of the scanline (R199). -/
theorem pixelIndex_congr (s t : State) (d a x W : Nat) (hW : W % 16 = 0) (hx : x < W)
    (h : ∀ c, a ≤ c → c < a + W * d / 8 → Memory.read s.mem c = Memory.read t.mem c) :
    pixelIndex s d a x = pixelIndex t d a x := by
  unfold pixelIndex
  congr 1
  apply List.map_congr_left
  intro p hp
  have hp' : p < d := List.mem_range.1 hp
  have hg : x / 16 + 1 ≤ W / 16 := by omega
  have h1 : (x / 16 + 1) * d ≤ W / 16 * d := Nat.mul_le_mul_right d hg
  have h2 : W * d / 8 = 2 * (W / 16 * d) := by
    obtain ⟨k, rfl⟩ : ∃ k, W = 16 * k := ⟨W / 16, by omega⟩
    rw [show 16 * k * d = 8 * (2 * (k * d)) by ring, Nat.mul_div_cancel_left _ (by omega),
      Nat.mul_div_cancel_left _ (by omega)]
  rw [Nat.add_mul, Nat.one_mul] at h1
  rw [memRead_two, memRead_two, h _ (by omega) (by omega), h _ (by omega) (by omega)]

end Sys2Proof.Machine
end

