-- ==== Sys2Proof/Laws/Redraw.lean ====
section
/-! SUPPORT. The redraw pass: what its scanline loop does to the pixels, to the notification stream and to the
rest of the state. -/

namespace Sys2Proof.Machine

theorem closeRun_frame (m : ActiveMode) (run : Option Nat) (y : Nat) (s : State) :
    closeRun m run y s = { s with notes := (closeRun m run y s).notes } := by
  cases run <;> rfl

@[simp] theorem closeRun_none (m : ActiveMode) (y : Nat) (s : State) : closeRun m none y s = s := rfl

@[simp] theorem closeRun_some (m : ActiveMode) (k y : Nat) (s : State) :
    closeRun m (some k) y s = s.emit (.update 0 k m.width (y - k)) := rfl

/-- The pixels of a state do not depend on its notification stream. -/
theorem closeRun_pixel (m : ActiveMode) (run : Option Nat) (k : Nat) (s : State) (x y : Nat) :
    (closeRun m run k s).pixel x y = s.pixel x y := by
  cases run <;> rfl

/-- Scanline `y` is dirty in a pass that starts in `s` exactly when the rule says so (R223). -/
theorem rowDirty_iff (m : ActiveMode) (full : Bool) (snap : List Nat) (y : Nat) :
    rowDirty m full snap y = true ↔
      full = true ∨ ∃ b ∈ snap, m.rowStart y ≤ b ∧ b < m.rowStart (y + 1) := by
  simp [rowDirty]

/-- The loop over the scanlines changes the drawn part of the surface and the notification stream, nothing
else. -/
theorem redrawRows_frame (m : ActiveMode) (full : Bool) (snap : List Nat) (n y : Nat) (run : Option Nat)
    (s : State) :
    redrawRows m full snap n y run s =
      { s with
        surf := (redrawRows m full snap n y run s).surf
        notes := (redrawRows m full snap n y run s).notes } := by
  induction n generalizing y run s with
  | zero => cases run <;> rfl
  | succ n ih =>
    unfold redrawRows
    split
    · rw [ih]; rw [runRoutine_frame]
    · rw [ih]; rw [closeRun_frame]

theorem redrawRows_surfW (m : ActiveMode) (full : Bool) (snap : List Nat) (n y : Nat) (run : Option Nat)
    (s : State) : (redrawRows m full snap n y run s).surfW = s.surfW := by rw [redrawRows_frame]

theorem redrawRows_surfH (m : ActiveMode) (full : Bool) (snap : List Nat) (n y : Nat) (run : Option Nat)
    (s : State) : (redrawRows m full snap n y run s).surfH = s.surfH := by rw [redrawRows_frame]

/-- The loop leaves a clean scanline, and every row outside its range, as it was (R223). -/
theorem redrawRows_pixel_clean (m : ActiveMode) (full : Bool) (snap : List Nat) (n y : Nat)
    (run : Option Nat) (s : State) (x z : Nat)
    (h : z < y ∨ y + n ≤ z ∨ rowDirty m full snap z = false) :
    (redrawRows m full snap n y run s).pixel x z = s.pixel x z := by
  induction n generalizing y run s with
  | zero => exact closeRun_pixel m run y s x z
  | succ n ih =>
    have h' : z < y + 1 ∨ y + 1 + n ≤ z ∨ rowDirty m full snap z = false :=
      h.imp (by omega) (Or.imp (by omega) id)
    unfold redrawRows
    split
    · rename_i hd
      rw [ih _ _ _ h', runRoutine_pixel_other]
      rintro rfl
      simp only [hd, Bool.true_eq_false, or_false] at h
      omega
    · rw [ih _ _ _ h', closeRun_pixel]

/-- The pixel index of a state depends on its memory alone, and the palette read on its palette alone. -/
theorem framePixel_congr (s t : State) (m : ActiveMode) (x y : Nat) (hm : t.mem = s.mem) (hp : t.pal = s.pal) :
    framePixel t m x y = framePixel s m x y := by
  unfold framePixel pixelIndex State.memRead State.palRead
  rw [hm, hp]

/-- The loop draws every dirty scanline of its range from system memory and the palette (R223, R190). -/
theorem redrawRows_pixel_dirty (m : ActiveMode) (full : Bool) (snap : List Nat) (n y : Nat)
    (run : Option Nat) (s : State) (x z : Nat) (hr : routineDepth m.decode = m.depth)
    (hx : x < 16 * (m.width / 16)) (hw : x < s.surfW) (hz : z < s.surfH) (hy : y ≤ z) (hn : z < y + n)
    (hd : rowDirty m full snap z = true) :
    (redrawRows m full snap n y run s).pixel x z = some (framePixel s m x z) := by
  induction n generalizing y run s with
  | zero => omega
  | succ n ih =>
    unfold redrawRows
    split
    · by_cases hzy : z = y
      · subst hzy
        rw [redrawRows_pixel_clean _ _ _ _ _ _ _ _ _ (.inl (by omega)),
          runRoutine_pixel _ _ _ _ _ _ hx hw hz, hr]
        rfl
      · rw [ih _ _ _ (by rw [runRoutine_frame]; exact hw) (by rw [runRoutine_frame]; exact hz) (by omega)
          (by omega)]
        rw [framePixel_congr s _ m x z (by rw [runRoutine_frame]) (by rw [runRoutine_frame])]
    · rename_i hc
      have hzy : z ≠ y := by rintro rfl; exact hc hd
      rw [ih _ _ _ (by rw [closeRun_frame]; exact hw) (by rw [closeRun_frame]; exact hz) (by omega)
        (by omega)]
      rw [framePixel_congr s _ m x z (by rw [closeRun_frame]) (by rw [closeRun_frame])]

/-- The loop keeps the canonical form of the drawn part. -/
theorem redrawRows_surfaceWf (m : ActiveMode) (full : Bool) (snap : List Nat) (n y : Nat)
    (run : Option Nat) (s : State) (h : surfaceWf s.surfW s.surfH s.surf = true) :
    surfaceWf s.surfW s.surfH (redrawRows m full snap n y run s).surf = true := by
  induction n generalizing y run s with
  | zero => cases run <;> exact h
  | succ n ih =>
    unfold redrawRows
    split
    · have h1 := ih (y + 1) (some (run.getD y)) (runRoutine m.decode (m.rowStart y) y m.width s)
      rw [runRoutine_eq] at h1 ⊢
      simp only [State.writeRow_surfW, State.writeRow_surfH] at h1
      exact h1 (State.writeRow_surfaceWf _ _ s h)
    · have h1 := ih (y + 1) none (closeRun m run y s)
      rw [closeRun_frame] at h1 ⊢
      exact h1 h

/-- The runs that the loop over `n` scanlines from `y` on reports: `run` is the start of the open run. -/
def dirtyRuns (dirty : Nat → Bool) : Nat → Nat → Option Nat → List (Nat × Nat)
  | 0, y, some k => [(k, y)]
  | 0, _, none => []
  | n + 1, y, run =>
    if dirty y then dirtyRuns dirty n (y + 1) (some (run.getD y))
    else
      match run with
      | some k => (k, y) :: dirtyRuns dirty n (y + 1) none
      | none => dirtyRuns dirty n (y + 1) none

/-- The notifications of the loop: one update of whole rows for each run, in order (R223, R229). -/
theorem redrawRows_notes (m : ActiveMode) (full : Bool) (snap : List Nat) (n y : Nat) (run : Option Nat)
    (s : State) :
    (redrawRows m full snap n y run s).notes =
      s.notes ++ (dirtyRuns (rowDirty m full snap) n y run).map
        fun r => Notification.update 0 r.1 m.width (r.2 - r.1) := by
  induction n generalizing y run s with
  | zero => cases run <;> simp [redrawRows, dirtyRuns]
  | succ n ih =>
    unfold redrawRows dirtyRuns
    split
    · rw [ih, runRoutine_frame]
    · rw [ih]; cases run <;> simp

/-- A loop that meets no dirty scanline and has no open run changes nothing. -/
theorem redrawRows_clean (m : ActiveMode) (full : Bool) (snap : List Nat) (n y : Nat) (s : State)
    (h : ∀ z, y ≤ z → z < y + n → rowDirty m full snap z = false) :
    redrawRows m full snap n y none s = s := by
  induction n generalizing y with
  | zero => rfl
  | succ n ih =>
    unfold redrawRows
    rw [h y (by omega) (by omega)]
    simp only [Bool.false_eq_true, if_false, closeRun_none]
    exact ih (y + 1) fun z h1 h2 => h z (by omega) (by omega)

/-- The resize of a pass leaves the surface at the latched size. -/
theorem resizeToMode_size (m : ActiveMode) (s : State) :
    (resizeToMode m s).surfW = m.width ∧ (resizeToMode m s).surfH = m.height := by
  unfold resizeToMode
  split_ifs with h
  · exact ⟨rfl, rfl⟩
  · exact not_or.1 h |>.imp not_not.1 not_not.1

theorem resizeToMode_frame (m : ActiveMode) (s : State) :
    resizeToMode m s =
      { s with
        surfW := m.width
        surfH := m.height
        surf := (resizeToMode m s).surf
        notes := (resizeToMode m s).notes } := by
  have h := resizeToMode_size m s
  unfold resizeToMode at h ⊢
  split_ifs at h ⊢
  · rfl
  · obtain ⟨h1, h2⟩ := h
    rw [← h1, ← h2]

/-- No resize while the size already matches (R228). -/
theorem resizeToMode_same (m : ActiveMode) (s : State) (hw : s.surfW = m.width) (hh : s.surfH = m.height) :
    resizeToMode m s = s := by
  unfold resizeToMode; rw [if_neg]; simp [hw, hh]

theorem resizeToMode_surfaceWf (m : ActiveMode) (s : State) (h : surfaceWf s.surfW s.surfH s.surf = true) :
    surfaceWf m.width m.height (resizeToMode m s).surf = true := by
  unfold resizeToMode
  split_ifs with hc
  · exact surfaceWf_cut _ _ _ ((surfaceWf_iff _ _ _).1 h).1
  · obtain ⟨h1, h2⟩ := not_or.1 hc
    rw [← not_not.1 h1, ← not_not.1 h2]; exact h

/-- Everything a pass changes: the surface, the stream, the frame's part of the dirty log and the full-redraw
flag (R223, R224). -/
theorem redrawPass_frame (m : ActiveMode) (s : State) :
    redrawPass m s =
      { s with
        surfW := m.width
        surfH := m.height
        surf := (redrawPass m s).surf
        notes := (redrawPass m s).notes
        dirty := (s.clearDirtyIn m.base.toNat m.frameEnd).dirty
        fullRedraw := false } := by
  unfold redrawPass
  simp only [State.queryClear]
  rw [redrawRows_frame, resizeToMode_frame]
  rfl

/-- A pass in one line: its scanline loop runs with the snapshot of the frame, on the resized surface and the
cleared log (R223). -/
theorem redrawPass_eq (m : ActiveMode) (s : State) :
    redrawPass m s =
      (redrawRows m s.fullRedraw (s.dirtyIn m.base.toNat m.frameEnd) m.height 0 none
        ((resizeToMode m s).clearDirtyIn m.base.toNat m.frameEnd)).clearFullRedraw := by
  have h1 : (resizeToMode m s).fullRedraw = s.fullRedraw := by rw [resizeToMode_frame]
  have h2 : (resizeToMode m s).dirtyIn m.base.toNat m.frameEnd = s.dirtyIn m.base.toNat m.frameEnd := by
    unfold State.dirtyIn; rw [resizeToMode_frame]
  unfold redrawPass State.queryClear
  simp only [h1, h2]

/-- For a row of the frame the snapshot says the same as the log (R222, R225). -/
theorem rowDirty_snapshot (m : ActiveMode) (s : State) (y : Nat) (hy : y < m.height) :
    rowDirty m s.fullRedraw (s.dirtyIn m.base.toNat m.frameEnd) y = true ↔ RowDirty s m y := by
  rw [rowDirty_iff]
  refine or_congr Iff.rfl ⟨fun ⟨b, hb, h⟩ => ⟨b, ((State.mem_dirtyIn _ _ _ _).1 hb).1, h⟩, fun ⟨b, hb, h⟩ => ?_⟩
  refine ⟨b, (State.mem_dirtyIn _ _ _ _).2 ⟨hb, ?_, ?_⟩, h⟩
  · exact le_trans (Nat.le_add_right _ _) h.1
  · have h2 := h.2
    unfold ActiveMode.rowStart at h2
    unfold ActiveMode.frameEnd
    have : (y + 1) * m.stride ≤ m.height * m.stride := Nat.mul_le_mul_right _ hy
    omega

end Sys2Proof.Machine
end

