-- ==== Sys2Proof/Laws/Timer.lean ====
section
/-! SUPPORT. The period write, the firing and the advance of time: what each can do, once. -/

namespace Sys2Proof.Machine

/-- All that a period write can do (R133). -/
theorem writePeriod_cases (p : Word) (s : State) :
    (Config.vblMinNs.val < p.toNat ∧
      writePeriod p s = { s with vblPeriod := p, deadline := some (s.now + p.toNat) }) ∨
    (p.toNat ≤ Config.vblMinNs.val ∧ writePeriod p s = { s with vblPeriod := 0, deadline := none }) := by
  unfold writePeriod
  by_cases h : p.toNat > Config.vblMinNs.val
  · exact .inl ⟨h, by rw [if_pos h]; rfl⟩
  · exact .inr ⟨Nat.le_of_not_gt h, by rw [if_neg h]; rfl⟩

/-- A firing that completes happened at its deadline, and this is all it did (R260). -/
theorem execFire_next {s t : State} (h : execFire s = .next t) :
    s.deadline = some s.now ∧ t = firing s.now s := by
  unfold execFire at h
  split at h
  · rename_i d hd
    split_ifs at h with hn
    cases h
    subst hn
    exact ⟨hd, rfl⟩
  · cases h

/-- An advance is enabled exactly when it neither goes back nor passes an armed deadline (R263). -/
theorem advanceEnabled_iff (u : Nat) (s : State) :
    advanceEnabled u s = true ↔ s.now ≤ u ∧ ∀ d, s.deadline = some d → u ≤ d := by
  unfold advanceEnabled
  cases s.deadline <;> simp

/-- An advance that completes was enabled, and moved the time alone (R263). -/
theorem execAdvance_next {s t : State} {u : Nat} (h : execAdvance u s = .next t) :
    s.now ≤ u ∧ (∀ d, s.deadline = some d → u ≤ d) ∧ t = s.setNow u := by
  unfold execAdvance at h
  split_ifs at h with ha
  cases h
  exact ⟨((advanceEnabled_iff u s).1 ha).1, ((advanceEnabled_iff u s).1 ha).2, rfl⟩

end Sys2Proof.Machine
end

