-- ==== Sys2Proof/Tests/Slice0.lean ====
section
/-! SUPPORT. The model's own tests. Expected results come from spec/95_test_vectors.md (its section is named at
each group) or are worked by hand from the rule named; a `witness_` theorem shows values that meet the
hypotheses of the obligation of that name. -/

namespace Sys2Proof.Tests

open Sys2Proof Sys2Proof.Machine

/-! ## WellFormed refuses what no rule admits -/

theorem test_wf_reg_oor_refuses_misaligned : wellFormed (.rdRegOor 0x19) = false := by decide
theorem test_wf_reg_oor_refuses_a_register : wellFormed (.wrRegOor 0x14 0) = false := by decide
theorem test_wf_reg_misaligned_refuses_aligned : wellFormed (.rdRegMisaligned 0x04) = false := by decide
theorem test_wf_reg_badsize_refuses_32_bits : wellFormed (.wrRegBadsize 2 0 0) = false := by decide
theorem test_wf_pal_oor_refuses_misaligned : wellFormed (.palReadOor 0x402) = false := by decide
theorem test_wf_pal_oor_refuses_an_entry : wellFormed (.palWriteOor 0x3FC 0) = false := by decide
theorem test_wf_pal_misaligned_refuses_aligned : wellFormed (.palWriteMisaligned 0x400 0) = false := by decide
theorem test_wf_pal_badsize_refuses_32_bits : wellFormed (.palReadBadsize 2 0) = false := by decide
theorem test_wf_refuse_refuses_a_transaction : wellFormed (.refuse 0x80000000) = false := by decide
theorem test_wf_decode_refuses_part_group : wellFormed (.decode1 0 0 328) = false := by decide
theorem test_wf_decode_refuses_narrow : wellFormed (.decode2 0 0 304) = false := by decide
theorem test_wf_decode_refuses_wide : wellFormed (.decode4 0 0 2064) = false := by decide
theorem test_wf_decode_refuses_row_2048 : wellFormed (.decode8 0 2048 320) = false := by decide
theorem test_wf_decode_admits_bounds :
    wellFormed (.decode8 0 2047 2048) = true ∧ wellFormed (.decode1 0 0 320) = true := by decide

/-! ## Decoding written-out words (spec/30_encoding.md R101 to R105; spec/95_test_vectors.md L2.1) -/

/-- Class 00, `SZ` 10, aligned, at the six register offsets of R103. -/
theorem test_decode_register_reads :
    [0x10000000, 0x10000004, 0x10000008, 0x1000000C, 0x10000010, 0x10000014].map (decodeTableWord 32) =
      [some .rdVblAck, some .rdVblPeriod, some .rdDepth, some .rdWidth, some .rdHeight, some .rdVaddr] := by
  decide

/-- The same with `W` 1 (bit 29). -/
theorem test_decode_register_writes :
    [0x30000000, 0x30000004, 0x30000008, 0x3000000C, 0x30000010, 0x30000014].map (decodeTableWord 32) =
      [some (.wrVblAck 0), some (.wrVblPeriod 0), some (.wrDepth 0), some (.wrWidth 0), some (.wrHeight 0),
        some (.wrVaddr 0)] := by
  decide

theorem test_decode_no_register :
    [0x10000018, 0x3000FFFC, 0x10000002, 0x30000017, 0x00000014, 0x08000004, 0x38000014, 0x08000002].map
        (decodeTableWord 32) =
      [some (.rdRegOor 0x18), some (.wrRegOor 0xFFFC 0), some (.rdRegMisaligned 2),
        some (.wrRegMisaligned 0x17 0), some (.rdRegBadsize 0 0x14), some (.rdRegBadsize 1 4),
        some (.wrRegBadsize 3 0x14 0), some (.rdRegBadsize 1 2)] := by
  decide

theorem test_decode_palette :
    [0x50000000, 0x700003FC, 0x50000400, 0x70000400, 0x50000002, 0x70000001, 0x40000004, 0x68000000].map
        (decodeTableWord 32) =
      [some (.palRead 0), some (.palWrite 255 0), some (.palReadOor 0x400), some (.palWriteOor 0x400 0),
        some (.palReadMisaligned 2), some (.palWriteMisaligned 1 0), some (.palReadBadsize 0 4),
        some (.palWriteBadsize 1 0 0)] := by
  decide

theorem test_decode_events :
    [0x80000000, 0x80000001, 0x80000002, 0x80000003, 0x80000004].map (decodeTableWord 32) =
      [some .redraw, some .fire, some .reset, some (.memw 0 0 []), some (.advance 0)] := by
  decide

theorem test_decode_reserved :
    [0x80000005, 0xA0000000, 0x90000000, 0xC0000000, 0x10010000, 0x50400000].map (decodeTableWord 32) =
      [some (.refuse 0x80000005), some (.refuse 0xA0000000), some (.refuse 0x90000000),
        some (.refuse 0xC0000000), some (.refuse 0x10010000), some (.refuse 0x50400000)] := by
  decide

/-- R113: a decoder routine is selected by the depth value; the same words as descriptors are 8-bit reads of the
register block (R107). -/
theorem test_dispatch_and_descriptor_readings :
    [1, 2, 4, 8].map dispatch = [some .decode1, some .decode2, some .decode4, some .decode8] ∧
      [0, 3, 16, 0x80000001].map dispatch = [none, none, none, none] ∧
      decodeTableWord 32 8 = some (.rdRegBadsize 0 8) := by
  decide

/-- R106: an event's own operands reach its instruction. -/
theorem test_decode_operands :
    decode { desc := 0x30000014, data := 0x1000 } = .wrVaddr 0x1000 ∧
      decode { desc := 0x70000320, data := 0x00ABCDEF } = .palWrite 200 0x00ABCDEF ∧
      decode { desc := 0x80000003, addr := 0x2028, byte0 := 0x80, bytes := [1] } = .memw 0x2028 0x80 [1] ∧
      decode { desc := 0x80000004, time := 2001000 } = .advance 2001000 := by
  decide

/-- Words of another width are no descriptor (R112). -/
theorem test_decode_width : decodeTableWord 16 0 = none ∧ decodeTableWord 32 0x100000000 = none := by decide

/-- The encoder gives the words of R114's table of examples. -/
theorem test_encode :
    encode (.wrVaddr 5) = some { desc := 0x30000014, data := 5 } ∧
      encode (.palRead 255) = some { desc := 0x500003FC } ∧
      encode (.rdRegBadsize 1 4) = some { desc := 0x08000004 } ∧
      encode .fire = some { desc := 0x80000001 } := by
  decide

/-! ## Small states -/

/-- A state with every register 0, the display off and palette entry `i` holding `i`. -/
def small : State where
  vblPeriod := 0
  depth := 0
  width := 0
  height := 0
  vaddr := 0
  pal := Vector.ofFn fun i => BitVec.ofNat 32 i.val
  act := none
  fullRedraw := false
  irq := false
  deadline := none
  now := 1000
  mem := []
  dirty := []
  surfW := 320
  surfH := 10
  surf := []
  notes := []
  rdata := []
  pending := []

/-- The mode of L2.5: 320 by 10 pixels of 1 bit at 0x2000. -/
def mode1 : ActiveMode := ⟨1, 320, 10, 0x2000, 40, .decode1⟩

/-- `small` with that mode on, and the given dirty log. -/
def shown (full : Bool) (dirty : List Nat) : State :=
  { small with
    depth := 1, width := 320, height := 10, vaddr := 0x2000, act := some mode1
    fullRedraw := full, dirty := dirty }

/-- `small` armed with the period 2000000 at time 1000 (L2.6), at time `now`. -/
def ticking (now : Nat) (line : Bool) : State :=
  { small with vblPeriod := 2000000, deadline := some 2001000, now := now, irq := line }

/-- One field of the next state. -/
def field {α : Type} (f : State → α) : Host.Outcome State Fault Refusal → Option α
  | .next t => some (f t)
  | .fault _ => none
  | .refused _ => none

/-- The reason of a refusal. -/
def reason : Host.Outcome State Fault Refusal → Option Refusal
  | .next _ => none
  | .fault _ => none
  | .refused r => some r

/-! ## Register bank (spec/95_test_vectors.md L1.4, L2.2) -/

theorem test_rd_vbl_ack : field (fun t => (t.rdata, t.irq)) (exec .rdVblAck { small with irq := true }) =
    some ([0], true) := by decide

theorem test_wr_vbl_ack : field (fun t => (t.irq, t.deadline)) (exec (.wrVblAck 0xFFFFFFFF) (ticking 5 true)) =
    some (false, some 2001000) := by decide

theorem test_rd_vbl_period : field State.rdata (exec .rdVblPeriod (ticking 5 false)) = some [2000000] := by decide

theorem test_wr_vbl_period_zero_disarms :
    field (fun t => (t.vblPeriod, t.deadline)) (exec (.wrVblPeriod 0) (ticking 5 true)) = some (0, none) := by
  decide

theorem test_wr_vbl_period_arms :
    field (fun t => (t.vblPeriod, t.deadline)) (exec (.wrVblPeriod 2000000) small) =
      some (2000000, some 2001000) := by
  have h := Config.vblMinNs.isLt
  simp [exec, execWrVblPeriod, writePeriod, h, field, small]

theorem test_rd_depth : field State.rdata (exec .rdDepth (shown false [])) = some [1] := by decide

theorem test_wr_depth_keeps_the_mode :
    field (fun t => (t.depth, t.act)) (exec (.wrDepth 3) (shown false [])) = some (3, some mode1) := by decide

theorem test_rd_width : field State.rdata (exec .rdWidth (shown false [])) = some [320] := by decide

theorem test_wr_width_stores_verbatim :
    field (fun t => (t.depth, t.width, t.height)) (exec (.wrWidth 321) small) = some (0, 321, 0) := by decide

theorem test_rd_height : field State.rdata (exec .rdHeight (shown false [])) = some [10] := by decide

theorem test_wr_height_stores_verbatim :
    field (fun t => (t.depth, t.width, t.height)) (exec (.wrHeight 2049) small) = some (0, 0, 2049) := by decide

theorem test_rd_vaddr : field State.rdata (exec .rdVaddr (shown false [])) = some [0x2000] := by decide

/-- L1.4: `Valid(0, 321, 0, 100)` is false. -/
theorem test_wr_vaddr_rejects :
    field (fun t => (t.depth, t.width, t.height, t.vaddr)) (exec (.wrVaddr 100) { small with width := 321 }) =
      some (0, 0, 0, 0) := by decide

/-- L2.2, every upper bound: the frame passes `2^32`. -/
theorem test_wr_vaddr_accepts_upper_bounds :
    field (fun t => (t.act, t.fullRedraw))
        (exec (.wrVaddr 0xFFFFFFFE) { small with depth := 8, width := 2048, height := 2048 }) =
      some (some ⟨8, 2048, 2048, 0xFFFFFFFE, 2048, .decode8⟩, true) := by decide

theorem test_rd_reg_oor : field State.rdata (exec (.rdRegOor 0x18) (shown false [])) = some [0] := by decide
theorem test_wr_reg_oor : field State.vaddr (exec (.wrRegOor 0x18 5) (shown false [])) = some 0x2000 := by decide
theorem test_rd_reg_misaligned : field State.rdata (exec (.rdRegMisaligned 6) (ticking 5 false)) = some [0] := by
  decide
theorem test_wr_reg_misaligned :
    field State.act (exec (.wrRegMisaligned 0x16 0x1000) (shown false [])) = some (some mode1) := by decide
theorem test_rd_reg_badsize : field State.rdata (exec (.rdRegBadsize 0 0x17) (shown false [])) = some [0] := by
  decide
theorem test_wr_reg_badsize :
    field State.act (exec (.wrRegBadsize 1 0x14 0) (shown false [])) = some (some mode1) := by decide

/-! ## Palette (L1.6, L2.3) -/

theorem test_pal_read : field State.rdata (exec (.palRead 200) small) = some [200] := by decide +kernel

theorem test_pal_write_last_entry :
    field (fun t => (t.palRead 255, t.palRead 254)) (exec (.palWrite 255 0xFF123456) small) =
      some (0xFF123456, 254) := by decide +kernel

theorem test_pal_read_oor : field State.rdata (exec (.palReadOor 0x400) small) = some [0] := by decide
theorem test_pal_write_oor : field (fun t => t.palRead 0) (exec (.palWriteOor 0x400 0x00FFFFFF) small) = some 0 := by
  decide +kernel
theorem test_pal_read_misaligned : field State.rdata (exec (.palReadMisaligned 0x102) small) = some [0] := by decide
theorem test_pal_write_misaligned : field (fun t => t.palRead 1) (exec (.palWriteMisaligned 5 0) small) = some 1 := by
  decide +kernel
theorem test_pal_read_badsize : field State.rdata (exec (.palReadBadsize 0 0x101) small) = some [0] := by decide
theorem test_pal_write_badsize : field (fun t => t.palRead 1) (exec (.palWriteBadsize 3 4 0) small) = some 1 := by
  decide +kernel

/-! ## Planar decoder (L2.4) -/

/-- System memory with the bytes `bs` at `a`. -/
def bytesAt (a : Nat) : List Byte → Memory
  | [] => []
  | b :: bs => (a, b) :: bytesAt (a + 1) bs

/-- Some pixels of row 0 after one group is decoded from the bytes at 0x2000. -/
def pixels (i : Nat → Nat → Nat → Instr) (bs : List Byte) (xs : List Nat) : Option (List (Option Color)) :=
  field (fun t => xs.map fun x => t.pixel x 0) (exec (i 0x2000 0 16) { small with mem := bytesAt 0x2000 bs })

theorem test_decode1 : pixels .decode1 [0x80, 0x01] [0, 1, 14, 15] = some [some 1, some 0, some 0, some 1] := by
  decide +kernel

theorem test_decode2 :
    pixels .decode2 [0x80, 0x01, 0xC0, 0x00] [0, 1, 2, 15] = some [some 3, some 2, some 0, some 1] := by decide +kernel

theorem test_decode4 :
    pixels .decode4 [0x80, 0, 0x40, 0, 0x20, 0, 0x10, 0] [0, 1, 2, 3, 4] =
      some [some 1, some 2, some 4, some 8, some 0] := by decide +kernel

theorem test_decode8 :
    pixels .decode8 [0, 0, 0, 0, 0, 0, 0, 0, 0, 0, 0, 0, 0, 0, 0x80, 0x01] [0, 7, 15] =
      some [some 128, some 0, some 128] := by decide +kernel

/-- The second group of a one-plane scanline starts two bytes on (R192, R200). -/
theorem test_decode1_second_group :
    (scanlinePixels { small with mem := bytesAt 0x2000 [0, 0, 0x40, 0] } 1 0x2000 32)[17]? = some 1 := by decide +kernel

/-! ## Dirty log and redraw (L1.3, L2.5) -/

theorem test_memw_stores : field (fun t => Memory.read t.mem 0x2001) (exec (.memw 0x2000 7 [9]) small) = some 9 := by
  have h := State.guestWrite_read 0x2000 1 [7, 9] small (by simp [small]) (by simp)
  simpa [exec, execMemw, field] using h

theorem test_memw_logs : field State.dirty (exec (.memw 0x2000 7 [9]) small) = some [0x2000, 0x2001] := by rfl

/-- L1.3: rows 2, 3, 4 and 7. -/
theorem test_redraw_coalesces :
    field (fun t => (t.notes, t.dirty))
        (exec .redraw (shown false [0x1FFF, 0x2050, 0x2078, 0x20A0, 0x2118, 0x2190])) =
      some ([.update 0 2 320 3, .update 0 7 320 1], [0x1FFF, 0x2190]) := by rfl

/-- L2.5: a full redraw with a resize. -/
theorem test_redraw_resizes_first :
    field (fun t => (t.notes, t.fullRedraw)) (exec .redraw { shown true [] with surfW := 640, surfH := 480 }) =
      some ([.resize 320 10, .update 0 0 320 10], false) := by rfl

/-! ## Timer (L2.6) -/

theorem test_fire_at_the_deadline :
    field (fun t => (t.irq, t.deadline)) (exec .fire (ticking 2001000 false)) = some (true, some 4001000) := by decide

theorem test_fire_before_the_deadline : reason (exec .fire (ticking 1000 false)) = some .fireNotEnabled := by decide

theorem test_advance_to_the_deadline :
    field (fun t => (t.now, t.irq)) (exec (.advance 2001000) (ticking 1000 false)) = some (2001000, false) := by
  decide

theorem test_advance_past_the_deadline :
    reason (exec (.advance 2001001) (ticking 1000 false)) = some .advanceNotEnabled := by decide

/-! ## Reset, refusal, step (L2.7, L2.1) -/

theorem test_reset_turns_off :
    field (fun t => (t.depth, t.vaddr, t.act, t.fullRedraw)) (exec .reset (shown true [])) =
      some (0, 0, none, false) := by decide

theorem test_reset_keeps_log_and_time :
    field (fun t => (t.dirty, t.now, t.notes)) (exec .reset (shown true [0x2000])) =
      some ([0x2000], 1000, []) := by decide

theorem test_refuse : reason (exec (.refuse 0xC0000000) small) = some (.reservedDescriptor 0xC0000000) := by decide

theorem test_step_runs_the_word :
    field State.rdata (step ((shown false []).withFetchWord 32 0x10000014)) = some [0x2000] := by decide

/-- L2.6, last row: the five firings of `wait 10000000`. -/
theorem test_wait_events :
    (waitEvents 10000000 (ticking 1000 false)).map Event.time =
      [2001000, 0, 4001000, 0, 6001000, 0, 8001000, 0, 10001000, 0, 10001000] := by decide

/-! ## Witnesses: the hypotheses of each obligation can be met -/

theorem witness_DecodeOfEncodeIsTheInstruction :
    (wellFormed (.rdRegOor 0x18) = true ∧ encode (.rdRegOor 0x18) = some { desc := 0x10000018 }) ∧
      (wellFormed (.palWriteOor 0xFFFC 7) = true ∧
        encode (.palWriteOor 0xFFFC 7) = some { desc := 0x7000FFFC, data := 7 }) := by decide

theorem witness_RowsOfOnePriorityNeverOverlap :
    ∃ r ∈ opcodeMap, r.name = "PAL_READ" ∧ r.hits 0x500003FC = true ∧ r.priority = 1 := by decide

theorem witness_DispatchIsKeyedByDepth :
    (3 : Word) ≠ 1 ∧ (3 : Word) ≠ 2 ∧ (3 : Word) ≠ 4 ∧ (3 : Word) ≠ 8 := by decide

theorem witness_StepRunsTheDecodedEvent :
    let s := (shown false []).withFetchWord 32 0x10000014
    (s.pending = { desc := 0x10000014 } :: [] ∧ decode { desc := 0x10000014 } = .rdVaddr ∧
      wellFormed .rdVaddr = true) ∧ small.pending = [] := by decide

theorem witness_StepStopsOnlyWhereTheRulesSay :
    (small.withFetchWord 32 0xC0000000).pending = { desc := 0xC0000000 } :: [] := by decide

theorem witness_MisalignedOrWrongWidthAccessIsNoOp :
    let e : Event := { desc := 0x70000003 }
    let f : Event := { desc := 0x18000000 }
    (small.withFetchWord 32 0x70000003).pending = e :: [] ∧ descRsv e.desc = 0 ∧ descCls e.desc = 1 ∧
      (descOff e.desc).toNat % 4 ≠ 0 ∧ descW e.desc = 1 ∧
    (small.withFetchWord 32 0x18000000).pending = f :: [] ∧ descRsv f.desc = 0 ∧ descCls f.desc = 0 ∧
      descSz f.desc ≠ 2 ∧ descW f.desc = 0 := by decide

theorem witness_ReservedDescriptorIsRefused :
    descCls 0xC0000000 = 3 ∧ descRsv 0x10010000 ≠ 0 ∧ descRsv 0x04000000 ≠ 0 ∧
      (descCls 0xA0000000 = 2 ∧ descW 0xA0000000 = 1) ∧ (descCls 0x88000000 = 2 ∧ descSz 0x88000000 ≠ 0) ∧
      (descCls 0x80000005 = 2 ∧ 4 < (descOff 0x80000005).toNat) := by decide

theorem witness_VblAckReadReturnsZero : (rdReg .vblAck).desc = 0x10000000 := by decide

theorem witness_RegisterReadsReturnTheStoredValue :
    ({ desc := 0x10000004 } : Event).desc = 0x10000004 ∧
      ({ desc := 0x10000008 } : Event).desc = 0x10000008 ∧ ({ desc := 0x1000000C } : Event).desc = 0x1000000C ∧
      ({ desc := 0x10000010 } : Event).desc = 0x10000010 ∧
      ({ desc := 0x10000014 } : Event).desc = 0x10000014 := by decide

theorem witness_GeometryWritesStoreVerbatim :
    (wrReg .depth 3).desc = 0x30000008 ∧ (wrReg .width 321).desc = 0x3000000C ∧
      (wrReg .height 2049).desc = 0x30000010 := by decide

theorem witness_VblAckWriteLowersTheLine : (wrReg .vblAck 0xFFFFFFFF).desc = 0x30000000 := by decide

/-- The two clauses meet at the threshold itself. -/
theorem witness_VblPeriodWriteArmsOrDisarms :
    (wrReg .vblPeriod 0).desc = 0x30000004 ∧ Config.vblMinNs.val < (0xFFFFFFFF : Word).toNat ∧
      Config.vblMinNs.val < (BitVec.ofNat 32 (Config.vblMinNs.val + 1)).toNat ∧
      (BitVec.ofNat 32 Config.vblMinNs.val).toNat ≤ Config.vblMinNs.val ∧
      (0 : Word).toNat ≤ Config.vblMinNs.val := by
  have h := Config.vblMinNs.isLt
  refine ⟨by decide, ?_, ?_, ?_, Nat.zero_le _⟩
  · have : (0xFFFFFFFF : Word).toNat = 4294967295 := by decide
    omega
  · rw [BitVec.toNat_ofNat]; omega
  · rw [BitVec.toNat_ofNat]; omega

/-- Every bound of the accepting clause, low and high, and one state for each way to be rejected. -/
theorem witness_VaddrWriteValidatesTheMode :
    (wrReg .vaddr 0).desc = 0x30000014 ∧
    (∃ s : State, s = { small with depth := 1, width := 320, height := 1 } ∧ (2 : Word) ≠ 0 ∧
      (2 : Word).toNat % 2 = 0 ∧ dispatch s.depth = some .decode1 ∧ s.width.toNat % 16 = 0 ∧
      320 ≤ s.width.toNat ∧ s.width.toNat ≤ 2048 ∧ 1 ≤ s.height.toNat ∧ s.height.toNat ≤ 2048) ∧
    (∃ s : State, s = { small with depth := 8, width := 2048, height := 2048 } ∧ (0xFFFFFFFE : Word) ≠ 0 ∧
      (0xFFFFFFFE : Word).toNat % 2 = 0 ∧ dispatch s.depth = some .decode8 ∧ s.width.toNat % 16 = 0 ∧
      320 ≤ s.width.toNat ∧ s.width.toNat ≤ 2048 ∧ 1 ≤ s.height.toNat ∧ s.height.toNat ≤ 2048) ∧
    ((0x1001 : Word) ≠ 0 ∧ (0x1001 : Word).toNat % 2 ≠ 0) ∧
    ((3 : Word) ≠ 1 ∧ (3 : Word) ≠ 2 ∧ (3 : Word) ≠ 4 ∧ (3 : Word) ≠ 8) ∧
    ((328 : Word).toNat % 16 ≠ 0 ∧ (304 : Word).toNat < 320 ∧ 2048 < (2064 : Word).toNat) ∧
    ((0 : Word).toNat < 1 ∧ 2048 < (2049 : Word).toNat) := by
  refine ⟨by decide, ⟨_, rfl, ?_⟩, ⟨_, rfl, ?_⟩, ?_⟩ <;> decide

theorem witness_VaddrWriteLeavesOffOrLegal : ∃ t, exec (.wrVaddr 100) small = .next t := ⟨_, rfl⟩

theorem witness_RegisterAccessesThatReachNoRegister :
    ((0x10000018 : Word) = 0x10000000 ||| (0x18 : Offset).setWidth 32 ∧ (0x18 : Offset).toNat % 4 = 0 ∧
      0x18 ≤ (0x18 : Offset).toNat) ∧
    ((0x3000FFFC : Word) = 0x30000000 ||| (0xFFFC : Offset).setWidth 32 ∧ (0xFFFC : Offset).toNat % 4 = 0 ∧
      0x18 ≤ (0xFFFC : Offset).toNat) ∧
    ((0x10000001 : Word) = 0x10000000 ||| (0x01 : Offset).setWidth 32 ∧ (0x01 : Offset).toNat % 4 ≠ 0) ∧
    ((0x3000FFFF : Word) = 0x30000000 ||| (0xFFFF : Offset).setWidth 32 ∧
      (0xFFFF : Offset).toNat % 4 ≠ 0) := by decide

theorem witness_WrongWidthAccessesAreIgnored :
    (0 : BitVec 2) ≠ 2 ∧ (1 : BitVec 2) ≠ 2 ∧ (3 : BitVec 2) ≠ 2 ∧
      (0x00000017 : Word) = mkDesc 0 0 0 0x17 ∧ (0x38000004 : Word) = mkDesc 0 1 3 4 ∧
      (0x48000001 : Word) = mkDesc 1 0 1 1 ∧ (0x78000000 : Word) = mkDesc 1 1 3 0 := by decide

theorem witness_RepeatedWrites :
    (∃ t, exec (.wrDepth 3) small = .next t) ∧
    (∃ t, exec (.wrVaddr 0x2000) (shown false []) = .next t ∧ t.act ≠ none) ∧
    (Config.vblMinNs.val < (0xFFFFFFFF : Word).toNat ∧ ∃ t, exec (.wrVblPeriod 0xFFFFFFFF) small = .next t) := by
  have h := Config.vblMinNs.isLt
  refine ⟨⟨_, rfl⟩, ⟨_, rfl, by decide⟩, ?_, ⟨_, rfl⟩⟩
  have : (0xFFFFFFFF : Word).toNat = 4294967295 := by decide
  omega

theorem witness_PaletteReadsAndWrites :
    ((0x50000000 : Word) = 0x50000000 ||| (0 : Offset).setWidth 32 ∧ (0 : Offset).toNat % 4 = 0 ∧
      (0 : Offset).toNat ≤ 0x3FC) ∧
    ((0x700003FC : Word) = 0x70000000 ||| (0x3FC : Offset).setWidth 32 ∧ (0x3FC : Offset).toNat % 4 = 0 ∧
      (0x3FC : Offset).toNat ≤ 0x3FC) := by decide

theorem witness_PaletteAccessesThatReachNoEntry :
    ((0x50000400 : Word) = 0x50000000 ||| (0x400 : Offset).setWidth 32 ∧ (0x400 : Offset).toNat % 4 = 0 ∧
      0x400 ≤ (0x400 : Offset).toNat) ∧
    ((0x7000FFFC : Word) = 0x70000000 ||| (0xFFFC : Offset).setWidth 32 ∧ (0xFFFC : Offset).toNat % 4 = 0 ∧
      0x400 ≤ (0xFFFC : Offset).toNat) ∧
    ((0x50000002 : Word) = 0x50000000 ||| (2 : Offset).setWidth 32 ∧ (2 : Offset).toNat % 4 ≠ 0) ∧
    ((0x70000401 : Word) = 0x70000000 ||| (0x401 : Offset).setWidth 32 ∧
      (0x401 : Offset).toNat % 4 ≠ 0) := by decide

theorem mode1_legal : mode1.Legal := by
  constructor <;> decide

theorem witness_RedrawIgnoresUnusedPaletteEntries :
    (shown true []).act = some mode1 ∧ mode1.Legal ∧
      (∀ j, j < 2 ^ mode1.depth → (small.pal.setIfInBounds 2 7)[j]? = (shown true []).pal[j]?) ∧
      (small.pal.setIfInBounds 2 7)[2]? ≠ (shown true []).pal[2]? ∧
      ∃ t, exec .redraw (shown true []) = .next t := by
  refine ⟨rfl, mode1_legal, ?_, by decide +kernel, ⟨_, rfl⟩⟩
  have : ∀ j, j < 2 → (small.pal.setIfInBounds 2 7)[j]? = (shown true []).pal[j]? := by decide +kernel
  exact this

theorem witness_RoutinesDrawTheirScanline : (320 : Nat) % 16 = 0 ∧ (2048 : Nat) % 16 = 0 ∧ 2047 < 2048 := by decide

/-- A scanline of one group of zero bits at depth 1, and one of one bits at depth 2. -/
theorem witness_AllZeroAndAllOnePlanes :
    let z : State := { small with mem := bytesAt 0x2000 [0, 0] }
    let o : State := { small with mem := bytesAt 0x2000 [0xFF, 0xFF, 0xFF, 0xFF] }
    ((16 : Nat) % 16 = 0 ∧ (∃ t, exec (routineInstr .decode1 0x2000 9 16) z = .next t) ∧
      ∀ c, 0x2000 ≤ c → c < 0x2000 + 16 * routineDepth .decode1 / 8 → Memory.read z.mem c = 0x00) ∧
    ((∃ t, exec (routineInstr .decode2 0x2000 0 16) o = .next t) ∧
      ∀ c, 0x2000 ≤ c → c < 0x2000 + 16 * routineDepth .decode2 / 8 → Memory.read o.mem c = 0xFF) := by
  refine ⟨⟨rfl, ⟨_, rfl⟩, fun c h1 h2 => ?_⟩, ⟨_, rfl⟩, fun c h1 h2 => ?_⟩
  · have h3 : c < 0x2002 := h2
    interval_cases c <;> rfl
  · have h3 : c < 0x2004 := h2
    interval_cases c <;> rfl

theorem witness_PlaneWordsAreBigEndian : (0 : Nat) < 8 ∧ (7 : Nat) < 8 := by decide

theorem witness_GuestWriteStoresAndLogsItsBytes :
    Memory.wf small.mem = true ∧ ({ desc := 0x80000003 } : Event).desc = 0x80000003 ∧
      0 < ((7 : Byte) :: [9]).length ∧ 1 < ((7 : Byte) :: [9]).length := by
  exact ⟨Memory.wf_nil, rfl, by decide, by decide⟩

theorem witness_RedrawWithDisplayOffDoesNothing :
    ({ desc := 0x80000000 } : Event).desc = 0x80000000 ∧ small.act = none := by decide

theorem witness_RedrawTakesSnapshotAndClearsFlag : (shown true [0x2000]).act = some mode1 := by decide

/-- The first and the last row of the frame dirty by their first and last byte, row 1 clean. -/
theorem witness_RedrawDrawsExactlyTheDirtyRows :
    let s := shown false [0x2000, 0x218F]
    s.act = some mode1 ∧ mode1.Legal ∧ 319 < mode1.width ∧ 9 < mode1.height ∧
      (∃ t, exec .redraw s = .next t) ∧ RowDirty s mode1 0 ∧ RowDirty s mode1 9 ∧ ¬ RowDirty s mode1 1 ∧
      s.surfW = mode1.width ∧ s.surfH = mode1.height := by
  refine ⟨rfl, mode1_legal, by decide, by decide, ⟨_, rfl⟩, Or.inr ⟨0x2000, ?_⟩, Or.inr ⟨0x218F, ?_⟩, ?_, rfl, rfl⟩
  · exact ⟨by simp [shown], by decide, by decide⟩
  · exact ⟨by simp [shown], by decide, by decide⟩
  · rintro (h | ⟨b, hb, h1, h2⟩)
    · exact absurd h (by decide)
    · have h1 : 0x2028 ≤ b := h1
      have h2 : b < 0x2050 := h2
      simp only [shown, List.mem_cons, List.not_mem_nil, or_false] at hb
      omega

theorem witness_RedrawCoalescesMaximalRuns :
    (shown false [0x2000]).act = some mode1 ∧ ∃ t, exec .redraw (shown false [0x2000]) = .next t :=
  ⟨rfl, ⟨_, rfl⟩⟩

/-- Between the two passes a palette write, and guest writes that end at the frame's first byte and begin at its
end. -/
theorem witness_SecondPassIsSilent :
    let between : List Instr := [.palWrite 1 0x00FF0000, .memw 0x1FFF 1 [], .memw 0x2190 1 [2]]
    (shown true []).act = some mode1 ∧ (∀ i ∈ between, leavesFrame mode1 i = true) ∧
      ∃ t u, exec .redraw (shown true []) = .next t ∧ execAll between t = .next u :=
  ⟨rfl, by decide, _, _, rfl, rfl⟩

/-- System memory that differs outside the frame alone. -/
theorem witness_RedrawReadsOnlyTheFrame :
    (shown true []).act = some mode1 ∧ mode1.Legal ∧
      (∀ c, mode1.base.toNat ≤ c → c < mode1.base.toNat + mode1.height * mode1.stride →
        Memory.read [(0x1FFF, 1), (0x2190, 2)] c = Memory.read (shown true []).mem c) ∧
      ∃ t, exec .redraw (shown true []) = .next t := by
  refine ⟨rfl, mode1_legal, fun c h1 h2 => ?_, ⟨_, rfl⟩⟩
  have h1 : 0x2000 ≤ c := h1
  have h2 : c < 0x2190 := h2
  rw [Memory.read_of_not_listed]
  · rfl
  · intro p hp
    simp only [List.mem_cons, List.not_mem_nil, or_false] at hp
    rcases hp with rfl | rfl <;> simp <;> omega

/-- A state that meets the invariant: the mode of L2.5 on, a full redraw due, a redraw event pending. -/
theorem witness_inv (s : State) (hs : s = { shown true [0x2000] with pending := [{ desc := 0x80000000 }] }) :
    Inv s := by
  subst hs
  refine ⟨⟨?_, ?_⟩, ⟨?_, ?_, ?_⟩, ⟨?_, ?_, ?_⟩, ?_⟩
  · rintro m hm
    obtain rfl : mode1 = m := by simpa [shown] using hm
    exact ⟨mode1_legal, rfl⟩
  · intro h
    exact absurd h (by decide)
  · decide
  · exact Or.inl rfl
  · intro d hd
    exact absurd hd (by simp [shown, small])
  · exact Memory.wf_nil
  · decide
  · decide
  · intro m _ h
    exact absurd h (by decide)

theorem witness_StepKeepsTheInvariant :
    ∃ s t : State, Inv s ∧ step s = .next t := ⟨_, _, witness_inv _ rfl, rfl⟩

/-- Before the pass, with a full redraw due, the surface need show nothing; the event is no palette write. -/
theorem witness_StepKeepsSurfaceShowingFrame :
    ∃ s t : State, Inv s ∧ SurfaceShowsFrame s ∧ step s = .next t ∧
      ∀ e rest ix v, s.pending = e :: rest → decode e ≠ .palWrite ix v := by
  refine ⟨_, _, witness_inv _ rfl, ?_, rfl, ?_⟩
  · intro m _ h
    exact absurd h (by decide)
  · intro e rest ix v h
    obtain ⟨rfl, -⟩ := List.cons.inj h
    rw [show decode { desc := 0x80000000 } = Instr.redraw by decide]
    exact fun h => Instr.noConfusion h

theorem witness_FireRaisesTheLineAtTheDeadline :
    fireEvent.desc = 0x80000001 ∧ (ticking 2001000 false).deadline = some (ticking 2001000 false).now ∧
      (ticking 2000999 false).deadline ≠ some (ticking 2000999 false).now ∧
      small.deadline ≠ some small.now ∧ TimerInv (ticking 2001000 false) := by
  refine ⟨by decide, by decide, by decide, by decide, ?_, Or.inr Config.vblMinNs.isLt, ?_⟩
  · decide
  · intro d hd
    obtain rfl : 2001000 = d := by simpa [ticking] using hd
    exact Nat.le_refl _

theorem witness_AdvanceMovesTimeUpToTheDeadline :
    (advanceEvent 7).desc = 0x80000004 ∧
    ((ticking 1000 false).now ≤ 1000 ∧ (ticking 1000 false).now ≤ 2001000 ∧
      ∀ d, (ticking 1000 false).deadline = some d → 2001000 ≤ d) ∧
    (999 < (ticking 1000 false).now ∧ ∃ d, (ticking 1000 false).deadline = some d ∧ d < 2001001) := by
  refine ⟨by decide, ⟨by decide, by decide, ?_⟩, by decide, ⟨2001000, by decide⟩⟩
  intro d hd
  obtain rfl : 2001000 = d := by simpa [ticking] using hd
  exact Nat.le_refl _

/-- One firing, then the second at its own deadline. -/
theorem witness_FiringsAreDriftFree :
    let between : List Instr := [.advance 2001000, .fire, .wrVblAck 0, .advance 4001000]
    Config.vblMinNs.val < (2000000 : Word).toNat ∧ (∀ i ∈ between, keepsTimerArmed i = true) ∧
      exec (.wrVblPeriod 2000000) small = .next (ticking 1000 false) ∧
      ∃ v w, execAll between (ticking 1000 false) = .next v ∧ exec .fire v = .next w := by
  have h := Config.vblMinNs.isLt
  refine ⟨h, by decide, ?_, _, _, rfl, rfl⟩
  simp [exec, execWrVblPeriod, writePeriod, h, small, ticking, State.regStore, State.arm]

theorem witness_LineStaysRaisedUntilAcknowledged :
    (ticking 2001000 true).irq = true ∧ (∀ i ∈ [Instr.fire, .wrVblPeriod 0, .rdVblAck], keepsLine i = true) ∧
      ∃ t, execAll [.fire, .wrVblPeriod 0, .rdVblAck] (ticking 2001000 true) = .next t :=
  ⟨rfl, by decide, _, rfl⟩

theorem witness_LineChangesOnlyByFireAckOrReset :
    (∃ t, exec .fire (ticking 2001000 false) = .next t ∧ (ticking 2001000 false).irq = false ∧ t.irq = true) ∧
    (∃ t, exec (.wrVblAck 0) (ticking 5 true) = .next t ∧ (ticking 5 true).irq = true ∧ t.irq = false) :=
  ⟨⟨_, rfl, rfl, rfl⟩, ⟨_, rfl, rfl, rfl⟩⟩

theorem witness_DisarmCancelsEveryFiring :
    (0 : Word).toNat ≤ Config.vblMinNs.val ∧ (∀ i ∈ [Instr.advance 100000000, .wrVblPeriod 0], ∀ q, i = .wrVblPeriod q → q.toNat ≤ Config.vblMinNs.val) ∧
      ∃ s1 t, exec (.wrVblPeriod 0) (ticking 2001000 true) = .next s1 ∧
        execAll [.advance 100000000, .wrVblPeriod 0] s1 = .next t := by
  refine ⟨Nat.zero_le _, ?_, { small with now := 2001000, irq := true }, _, ?_, rfl⟩
  · rintro i hi q rfl
    obtain rfl : q = 0 := by simpa using hi
    exact Nat.zero_le _
  · simp [exec, execWrVblPeriod, writePeriod, small, ticking, State.regStore, State.disarm]

theorem witness_OnlyAdvanceMovesTime :
    ∃ t, exec (.advance 2001000) (ticking 1000 false) = .next t ∧ t.now ≠ (ticking 1000 false).now :=
  ⟨_, rfl, by decide⟩

theorem witness_TimeCannotPassADeadlineUnfired :
    (ticking 1000 false).deadline = some 2001000 ∧ (ticking 1000 false).now ≤ 2001000 ∧
      (∀ i ∈ [Instr.advance 2001000], keepsTimerArmed i = true ∧ i ≠ .fire) ∧
      ∃ t, execAll [.advance 2001000] (ticking 1000 false) = .next t :=
  ⟨rfl, by decide, by decide, _, rfl⟩

theorem witness_OrderAtADeadlineShows :
    (ticking 2001000 false).deadline = some (ticking 2001000 false).now ∧
      Config.vblMinNs.val < (2000000 : Word).toNat ∧ (0 : Word).toNat ≤ Config.vblMinNs.val :=
  ⟨rfl, Config.vblMinNs.isLt, Nat.zero_le _⟩

theorem witness_WaitRunsEveryFiringUpToItsTime :
    ∃ s : State, s = { ticking 1000 false with pending := waitEvents 10000000 (ticking 1000 false) } ∧
      s.deadline = some 2001000 ∧ s.now ≤ 2001000 ∧ s.vblPeriod ≠ 0 ∧
      s.pending = waitEvents 10000000 s ++ [] := by
  refine ⟨_, rfl, rfl, by decide, by decide, ?_⟩
  rw [List.append_nil]
  rfl

theorem witness_WaitOnAnIdleTimerMovesTimeAlone :
    ∃ s : State, s = { small with pending := waitEvents 5 small } ∧ s.deadline = none ∧
      s.pending = waitEvents 5 s ++ [] := ⟨_, rfl, rfl, rfl⟩

/-- The first firing of a timer armed at 1000, and a step that fires nothing. -/
theorem witness_StepKeepsTheDeadlineOnItsGrid :
    let s := (ticking 2001000 false).withFetchWord 32 0x80000001
    let r := (ticking 1000 false).withFetchWord 32 0x10000000
    (s.vblPeriod = 2000000 ∧ s.deadline = some (1000 + (0 + 1) * (2000000 : Word).toNat) ∧
      s.pending = [fireEvent] ∧ keepsTimerArmed (decode fireEvent) = true ∧ decode fireEvent = .fire ∧
      ∃ t, step s = .next t) ∧
    (r.vblPeriod = 2000000 ∧ r.deadline = some (1000 + (0 + 1) * (2000000 : Word).toNat) ∧
      r.pending = [rdReg .vblAck] ∧ keepsTimerArmed (decode (rdReg .vblAck)) = true ∧
      decode (rdReg .vblAck) ≠ .fire ∧ ∃ t, step r = .next t) :=
  ⟨⟨rfl, rfl, rfl, by decide, by decide, _, rfl⟩, rfl, rfl, rfl, by decide, by decide, _, rfl⟩

theorem witness_DeviceResetReappliesTheOffState : ({ desc := 0x80000002 } : Event).desc = 0x80000002 := rfl

theorem witness_OnlyGuestWritesChangeSystemMemory :
    (∃ t, exec .redraw (shown true []) = .next t ∧ ∀ a b bs, Instr.redraw ≠ .memw a b bs) ∧
      ∃ t, exec (.memw 0x2000 7 [9]) small = .next t ∧ 0x1FFF < 0x2000 ∧ 0x2000 + [(9 : Byte)].length < 0x2002 :=
  ⟨⟨_, rfl, by simp⟩, ⟨_, rfl, by decide, by decide⟩⟩

theorem witness_LatchAndFlagWritersAreTheRuled :
    (∃ t, exec (.wrVaddr 0) (shown false []) = .next t ∧ t.act ≠ (shown false []).act) ∧
    (∃ t, exec (.wrVaddr 0x2000) (shown false []) = .next t ∧ (shown false []).fullRedraw = false ∧
      t.fullRedraw = true) ∧
    (∃ t, exec .redraw (shown true []) = .next t ∧ (shown true []).fullRedraw = true ∧ t.fullRedraw = false) :=
  ⟨⟨_, rfl, by decide⟩, ⟨_, rfl, rfl, rfl⟩, ⟨_, rfl, rfl, rfl⟩⟩

theorem witness_PaletteAndStreamWritersAreTheRuled :
    (∃ t, exec (.palWrite 1 0xDEADBEEF) small = .next t ∧ t.pal ≠ small.pal) ∧
    (∃ t, exec .redraw (shown true []) = .next t ∧ t.notes ≠ (shown true []).notes) := by
  refine ⟨⟨_, rfl, ?_⟩, ⟨_, rfl, ?_⟩⟩
  · intro h
    exact absurd (congrArg (fun p : Vector Color 256 => p[1]?) h) (by decide +kernel)
  · decide +kernel

theorem witness_StoredRegisterWritersAreTheRuled :
    (∃ t, exec (.wrVblPeriod 0) (ticking 5 true) = .next t ∧ t.vblPeriod ≠ (ticking 5 true).vblPeriod) ∧
    (∃ t, exec (.wrVaddr 100) { small with depth := 3, width := 321, height := 7 } = .next t ∧
      t.depth ≠ 3 ∧ t.width ≠ 321 ∧ t.height ≠ 7) ∧
    (∃ t, exec (.wrVaddr 0) (shown false []) = .next t ∧ t.vaddr ≠ (shown false []).vaddr) ∧
    (∃ t, exec .rdVblAck small = .next t ∧ t.rdata ≠ small.rdata) := by
  refine ⟨⟨_, rfl, ?_⟩, ⟨_, rfl, ?_⟩, ⟨_, rfl, ?_⟩, ⟨_, rfl, ?_⟩⟩
  · simp [writePeriod, ticking]
  all_goals decide

theorem witness_SetmodeTurnsTheDisplayOn :
    ∃ s : State, s.pending = setmode 8 2048 2048 0xFFFFFFFE ++ [] ∧ dispatch 8 = some .decode8 ∧
      (0xFFFFFFFE : Word) ≠ 0 ∧ (0xFFFFFFFE : Word).toNat % 2 = 0 ∧ (2048 : Word).toNat % 16 = 0 ∧
      320 ≤ (2048 : Word).toNat ∧ (2048 : Word).toNat ≤ 2048 ∧ 1 ≤ (2048 : Word).toNat :=
  ⟨{ small with pending := setmode 8 2048 2048 0xFFFFFFFE ++ [] }, rfl, by decide⟩

end Sys2Proof.Tests
end

/-! What an instruction that completes has done, said once: `Effect i s t` lists every way in which `exec i` takes
`s` to `t`, each as an update of the fields it changes and with the guard under which it happens. The invariant and
the rules about who writes which part of the state are read off from it, one case split each. -/

namespace Sys2Proof.Machine

/-! ## The effects of instructions -/

/-- The value that an instruction returns on the bus (R31, R106, R130, R143, R170); an instruction that is no bus
read returns none. -/
def readValue (s : State) : Instr → Option Word
  | .rdVblAck => some 0
  | .rdVblPeriod => some s.vblPeriod
  | .rdDepth => some s.depth
  | .rdWidth => some s.width
  | .rdHeight => some s.height
  | .rdVaddr => some s.vaddr
  | .palRead ix => some (s.palRead ix.toNat)
  | .rdRegOor _ | .rdRegMisaligned _ | .rdRegBadsize _ _ => some 0
  | .palReadOor _ | .palReadMisaligned _ | .palReadBadsize _ _ => some 0
  | _ => none

/-- A bus write that reaches no register and no palette entry (R144, R146, R148, R175, R176, R178). -/
def isIgnoredWrite : Instr → Bool
  | .wrRegOor _ _ | .wrRegMisaligned _ _ | .wrRegBadsize _ _ _ => true
  | .palWriteOor _ _ | .palWriteMisaligned _ _ | .palWriteBadsize _ _ _ => true
  | _ => false

/-- The instruction `i` that completes takes `s` to `t`: one constructor for each effect the rules give. -/
inductive Effect : Instr → State → State → Prop
  | read {i s v} : readValue s i = some v → Effect i s { s with rdata := s.rdata ++ [v] }
  | ignoredWrite {i s} : isIgnoredWrite i = true → Effect i s s
  | acknowledge {s v} : Effect (.wrVblAck v) s { s with irq := false }
  | periodArms {s p} : Config.vblMinNs.val < p.toNat →
      Effect (.wrVblPeriod p) s { s with vblPeriod := p, deadline := some (s.now + p.toNat) }
  | periodDisarms {s p} : p.toNat ≤ Config.vblMinNs.val →
      Effect (.wrVblPeriod p) s { s with vblPeriod := 0, deadline := none }
  | depth {s v} : Effect (.wrDepth v) s { s with depth := v }
  | width {s v} : Effect (.wrWidth v) s { s with width := v }
  | height {s v} : Effect (.wrHeight v) s { s with height := v }
  | vaddrOff {s} : Effect (.wrVaddr 0) s { s with vaddr := 0, act := none }
  | vaddrAccepted {s v r} : v ≠ 0 → validMode s.depth s.width s.height v = true → dispatch s.depth = some r →
      Effect (.wrVaddr v) s { s with
        vaddr := v, act := some (latchMode s.depth s.width s.height v r), fullRedraw := true }
  | vaddrRejected {s v} : v ≠ 0 → validMode s.depth s.width s.height v = false →
      Effect (.wrVaddr v) s { s with depth := 0, width := 0, height := 0, vaddr := 0, act := none }
  | palWrite {s ix v} : Effect (.palWrite ix v) s { s with pal := s.pal.setIfInBounds ix.toNat v }
  | redrawOff {s} : s.act = none → Effect .redraw s s
  | redrawOn {s m} : s.act = some m → Effect .redraw s { s with
      surfW := m.width
      surfH := m.height
      surf := (redrawPass m s).surf
      notes := (redrawPass m s).notes
      dirty := (s.clearDirtyIn m.base.toNat m.frameEnd).dirty
      fullRedraw := false }
  | fire {s} : s.deadline = some s.now →
      Effect .fire s { s with irq := true, deadline := some (s.now + s.vblPeriod.toNat) }
  | reset {s} : Effect .reset s { s with
      vblPeriod := 0, depth := 0, width := 0, height := 0, vaddr := 0, act := none
      pal := Config.defaultPalette Config.resetPaletteDepth
      deadline := none, irq := false, fullRedraw := false }
  | guestWrite {s a b bs} : Effect (.memw a b bs) s { s with
      mem := (s.guestWrite a (b :: bs)).mem, dirty := (s.guestWrite a (b :: bs)).dirty }
  | advance {s u} : s.now ≤ u → (∀ d, s.deadline = some d → u ≤ d) → Effect (.advance u) s { s with now := u }
  | routine {s r a y w} :
      Effect (routineInstr r a y w) s { s with surf := (runRoutine r a y w s).surf }

/-- The dispatched arm of a decoder routine runs that routine (R113). -/
theorem exec_routineInstr (r : Routine) (a y w : Nat) (s : State) :
    exec (routineInstr r a y w) s = .next (runRoutine r a y w s) := by
  cases r <;> rfl

theorem Effect.of_routine {r : Routine} {a y w : Nat} {s t : State}
    (h : exec (routineInstr r a y w) s = .next t) : Effect (routineInstr r a y w) s t := by
  rw [exec_routineInstr] at h
  cases h
  rw [runRoutine_frame]
  exact .routine

theorem Effect.of_redraw {s t : State} (h : exec .redraw s = .next t) : Effect .redraw s t := by
  change execRedraw s = .next t at h
  unfold execRedraw at h
  split at h
  next hoff => cases h; exact .redrawOff hoff
  next m hon => cases h; rw [redrawPass_frame]; exact .redrawOn hon

theorem Effect.writePeriod (p : Word) (s : State) : Effect (.wrVblPeriod p) s (writePeriod p s) := by
  obtain ⟨hp, ht⟩ | ⟨hp, ht⟩ := writePeriod_cases p s
  · rw [ht]; exact .periodArms hp
  · rw [ht]; exact .periodDisarms hp

theorem Effect.writeVaddr (v : Word) (s : State) : Effect (.wrVaddr v) s (writeVaddr v s) := by
  obtain ⟨rfl, ht⟩ | ⟨r, hv, hvalid, hr, ht⟩ | ⟨hv, hbad, ht⟩ := writeVaddr_cases v s
  · rw [ht]; exact .vaddrOff
  · rw [ht]; exact .vaddrAccepted hv hvalid hr
  · rw [ht]; exact .vaddrRejected hv hbad

/-- The inversion of `exec`: an instruction that completes has one of the listed effects. -/
theorem effect_of_exec {i : Instr} {s t : State} (h : exec i s = .next t) : Effect i s t := by
  cases i with
  | rdVblAck | rdVblPeriod | rdDepth | rdWidth | rdHeight | rdVaddr | palRead | rdRegOor | rdRegMisaligned
  | rdRegBadsize | palReadOor | palReadMisaligned | palReadBadsize => cases h; exact .read rfl
  | wrRegOor | wrRegMisaligned | wrRegBadsize | palWriteOor | palWriteMisaligned | palWriteBadsize =>
    cases h; exact .ignoredWrite rfl
  | wrVblAck => cases h; exact .acknowledge
  | wrVblPeriod p => cases h; exact .writePeriod p s
  | wrDepth => cases h; exact .depth
  | wrWidth => cases h; exact .width
  | wrHeight => cases h; exact .height
  | wrVaddr v => cases h; exact .writeVaddr v s
  | palWrite => cases h; exact .palWrite
  | redraw => exact .of_redraw h
  | fire =>
    obtain ⟨hd, rfl⟩ := execFire_next h
    exact .fire hd
  | reset => cases h; exact .reset
  | memw a b bs =>
    cases h
    rw [State.guestWrite_frame]
    exact .guestWrite
  | advance u =>
    obtain ⟨hnow, hd, rfl⟩ := execAdvance_next h
    exact .advance hnow hd
  | refuse => cases h
  | decode1 => exact .of_routine (r := .decode1) h
  | decode2 => exact .of_routine (r := .decode2) h
  | decode4 => exact .of_routine (r := .decode4) h
  | decode8 => exact .of_routine (r := .decode8) h

/-- A step that completes ran no event, or the first one pending, in the state without it (R100, R322). -/
theorem step_next {s t : State} (h : step s = .next t) :
    (s.pending = [] ∧ t = s) ∨
      ∃ e rest, s.pending = e :: rest ∧ Effect (decode e) (s.setPending rest) t := by
  unfold step at h
  split at h
  next hnil => cases h; exact .inl ⟨hnil, rfl⟩
  next e rest hcons => exact .inr ⟨e, rest, hcons, effect_of_exec h⟩

/-! ## The invariant (R32, R39, R40, R45, R263, R228) -/

section
variable {i : Instr} {s t : State}

theorem Effect.latchInv (h : Effect i s t) (hi : LatchInv s) : LatchInv t := by
  cases h with
  | vaddrAccepted _ hvalid hr =>
    refine ⟨?_, fun hoff => nomatch hoff⟩
    rintro m ⟨rfl⟩
    exact ⟨latchMode_legal hvalid hr, rfl⟩
  | vaddrOff | vaddrRejected | reset => exact ⟨fun _ hon => (nomatch hon), fun _ => rfl⟩
  | _ => exact hi

theorem timerInv_of_idle (hd : s.deadline = none) (hp : s.vblPeriod = 0) : TimerInv s := by
  simp [TimerInv, hd, hp]

/-- A deadline not yet past, with a period above the threshold, meets the timer invariant. -/
theorem timerInv_of_armed {d : Nat} (hd : s.deadline = some d) (hp : Config.vblMinNs.val < s.vblPeriod.toNat)
    (hn : s.now ≤ d) : TimerInv s := by
  have hne : s.vblPeriod ≠ 0 := fun h0 => by simp [h0] at hp
  exact ⟨iff_of_false (by simp [hd]) hne, .inr hp, fun _ hd' => by rwa [← Option.some.inj (hd.symm.trans hd')]⟩

theorem TimerInv.period_of_armed {d : Nat} (hi : TimerInv s) (hd : s.deadline = some d) :
    Config.vblMinNs.val < s.vblPeriod.toNat := by
  obtain ⟨hidle, hmin, -⟩ := hi
  refine hmin.resolve_left fun h0 => ?_
  simp [hidle.2 h0] at hd

theorem Effect.timerInv (h : Effect i s t) (hi : TimerInv s) : TimerInv t := by
  cases h with
  | periodArms hp => exact timerInv_of_armed rfl hp (Nat.le_add_right _ _)
  | periodDisarms | reset => exact timerInv_of_idle rfl rfl
  | fire hd => exact timerInv_of_armed rfl (hi.period_of_armed hd) (Nat.le_add_right _ _)
  | advance _ hpast =>
    obtain ⟨hidle, hmin, -⟩ := hi
    exact ⟨hidle, hmin, hpast⟩
  | _ => exact hi

/-- A pass leaves the drawn part in canonical form for the latched size. -/
theorem redrawPass_surfaceWf (m : ActiveMode) (s : State) (h : surfaceWf s.surfW s.surfH s.surf = true) :
    surfaceWf m.width m.height (redrawPass m s).surf = true := by
  obtain ⟨hw, hh⟩ := resizeToMode_size m s
  have hcut := resizeToMode_surfaceWf m s h
  rw [← hw, ← hh] at hcut ⊢
  rw [redrawPass_eq]
  exact redrawRows_surfaceWf _ _ _ _ _ _ ((resizeToMode m s).clearDirtyIn _ _) hcut

theorem runRoutine_surfaceWf (r : Routine) (a y w : Nat) (s : State)
    (h : surfaceWf s.surfW s.surfH s.surf = true) :
    surfaceWf s.surfW s.surfH (runRoutine r a y w s).surf = true := by
  rw [runRoutine_eq]
  exact State.writeRow_surfaceWf _ _ _ h

theorem Effect.dataInv (h : Effect i s t) (hi : DataInv s) : DataInv t := by
  obtain ⟨hmem, hdirty, hsurf⟩ := hi
  cases h with
  | redrawOn =>
    exact ⟨hmem, State.clearDirtyIn_dirtyWf _ _ _ hdirty, redrawPass_surfaceWf _ _ hsurf⟩
  | guestWrite =>
    exact ⟨State.guestWrite_wf _ _ _ hmem, State.guestWrite_dirtyWf _ _ _ hdirty, hsurf⟩
  | routine => exact ⟨hmem, hdirty, runRoutine_surfaceWf _ _ _ _ _ hsurf⟩
  | _ => exact ⟨hmem, hdirty, hsurf⟩

theorem Effect.sizeInv (h : Effect i s t) (hi : SizeInv s) : SizeInv t := by
  cases h with
  | vaddrOff | vaddrRejected | reset => exact fun _ hon => nomatch hon
  | vaddrAccepted => exact fun _ _ hdue => nomatch hdue
  | redrawOn hon =>
    intro m hm _
    obtain rfl := Option.some.inj (hon.symm.trans hm)
    exact ⟨rfl, rfl⟩
  | _ => exact hi

/-- Every effect keeps the invariant, part by part. -/
theorem Effect.inv (h : Effect i s t) (hi : Inv s) : Inv t :=
  ⟨h.latchInv hi.latch, h.timerInv hi.timer, h.dataInv hi.data, h.sizeInv hi.size⟩

/-- The invariant does not speak of the pending events. -/
theorem Inv.setPending (hi : Inv s) (es : List Event) : Inv (s.setPending es) :=
  ⟨hi.latch, hi.timer, hi.data, hi.size⟩

end

/-- Settles O49: a step that runs an event has one of the effects, and each keeps the four parts of the
invariant. -/
theorem stepKeepsTheInvariant : Obligations.StepKeepsTheInvariant := by
  intro s t hi h
  obtain ⟨-, rfl⟩ | ⟨e, rest, -, heffect⟩ := step_next h
  · exact hi
  · exact heffect.inv (hi.setPending rest)

/-- Settles O48: nothing is latched, armed, listed or logged right after attach. -/
theorem invariantHoldsAtReset : Obligations.InvariantHoldsAtReset where
  latch := ⟨fun _ hon => (nomatch hon), fun _ => rfl⟩
  timer := timerInv_of_idle rfl rfl
  data := ⟨Memory.reset_wf, (dirtyWf_iff _).2 .nil, (surfaceWf_iff _ _ _).2 ⟨.nil, by simp [State.reset]⟩⟩
  size := fun _ hon => nomatch hon

/-! ## Who writes which part of the state -/

section
variable {i : Instr} {s t : State}

/-- The line after an instruction (R43, R131, R260, R293, R320). -/
theorem Effect.irq_cases (h : Effect i s t) :
    t.irq = s.irq ∨ (t.irq = true ∧ i = .fire) ∨ (t.irq = false ∧ (i = .reset ∨ ∃ v, i = .wrVblAck v)) := by
  cases h with
  | fire => exact .inr (.inl ⟨rfl, rfl⟩)
  | reset => exact .inr (.inr ⟨rfl, .inl rfl⟩)
  | acknowledge => exact .inr (.inr ⟨rfl, .inr ⟨_, rfl⟩⟩)
  | _ => exact .inl rfl

/-- Virtual time after an instruction (R46, R263). -/
theorem Effect.now_cases (h : Effect i s t) : t.now = s.now ∨ (s.now ≤ t.now ∧ i = .advance t.now) := by
  cases h with
  | advance hle => exact .inr ⟨hle, rfl⟩
  | _ => exact .inl rfl

/-- The writers of the latch (R39). -/
theorem Effect.act_cases (h : Effect i s t) : t.act = s.act ∨ i = .reset ∨ ∃ v, i = .wrVaddr v := by
  cases h with
  | reset => exact .inr (.inl rfl)
  | vaddrOff | vaddrAccepted | vaddrRejected => exact .inr (.inr ⟨_, rfl⟩)
  | _ => exact .inl rfl

/-- The full-redraw flag after an instruction (R42, R141, R224, R320). -/
theorem Effect.fullRedraw_cases (h : Effect i s t) :
    t.fullRedraw = s.fullRedraw ∨ (t.fullRedraw = true ∧ ∃ v, i = .wrVaddr v) ∨
      (t.fullRedraw = false ∧ (i = .redraw ∨ i = .reset)) := by
  cases h with
  | vaddrAccepted => exact .inr (.inl ⟨rfl, _, rfl⟩)
  | redrawOn => exact .inr (.inr ⟨rfl, .inl rfl⟩)
  | reset => exact .inr (.inr ⟨rfl, .inr rfl⟩)
  | _ => exact .inl rfl

/-- The writers of the palette (R37, R172, R179). -/
theorem Effect.pal_cases (h : Effect i s t) : t.pal = s.pal ∨ i = .reset ∨ ∃ ix v, i = .palWrite ix v := by
  cases h with
  | reset => exact .inr (.inl rfl)
  | palWrite => exact .inr (.inr ⟨_, _, rfl⟩)
  | _ => exact .inl rfl

/-- Only a pass sends notifications (R50, R230). -/
theorem Effect.notes_cases (h : Effect i s t) : t.notes = s.notes ∨ i = .redraw := by
  cases h with
  | redrawOn => exact .inr rfl
  | _ => exact .inl rfl

/-- The writers of `VBL_PERIOD` (R32). -/
theorem Effect.vblPeriod_cases (h : Effect i s t) :
    t.vblPeriod = s.vblPeriod ∨ i = .reset ∨ ∃ v, i = .wrVblPeriod v := by
  cases h with
  | reset => exact .inr (.inl rfl)
  | periodArms | periodDisarms => exact .inr (.inr ⟨_, rfl⟩)
  | _ => exact .inl rfl

/-- The writers of `DEPTH` (R33, R141). -/
theorem Effect.depth_cases (h : Effect i s t) :
    t.depth = s.depth ∨ i = .reset ∨ (∃ v, i = .wrDepth v) ∨ ∃ v, i = .wrVaddr v := by
  cases h with
  | reset => exact .inr (.inl rfl)
  | depth => exact .inr (.inr (.inl ⟨_, rfl⟩))
  | vaddrRejected => exact .inr (.inr (.inr ⟨_, rfl⟩))
  | _ => exact .inl rfl

/-- The writers of `WIDTH` (R34, R141). -/
theorem Effect.width_cases (h : Effect i s t) :
    t.width = s.width ∨ i = .reset ∨ (∃ v, i = .wrWidth v) ∨ ∃ v, i = .wrVaddr v := by
  cases h with
  | reset => exact .inr (.inl rfl)
  | width => exact .inr (.inr (.inl ⟨_, rfl⟩))
  | vaddrRejected => exact .inr (.inr (.inr ⟨_, rfl⟩))
  | _ => exact .inl rfl

/-- The writers of `HEIGHT` (R35, R141). -/
theorem Effect.height_cases (h : Effect i s t) :
    t.height = s.height ∨ i = .reset ∨ (∃ v, i = .wrHeight v) ∨ ∃ v, i = .wrVaddr v := by
  cases h with
  | reset => exact .inr (.inl rfl)
  | height => exact .inr (.inr (.inl ⟨_, rfl⟩))
  | vaddrRejected => exact .inr (.inr (.inr ⟨_, rfl⟩))
  | _ => exact .inl rfl

/-- The writers of `VADDR` (R36, R141). -/
theorem Effect.vaddr_cases (h : Effect i s t) : t.vaddr = s.vaddr ∨ i = .reset ∨ ∃ v, i = .wrVaddr v := by
  cases h with
  | reset => exact .inr (.inl rfl)
  | vaddrOff | vaddrAccepted | vaddrRejected => exact .inr (.inr ⟨_, rfl⟩)
  | _ => exact .inl rfl

/-- Only a bus read appends to the returned values, and it does nothing else (R81, R106). -/
theorem Effect.rdata_cases (h : Effect i s t) :
    t.rdata = s.rdata ∨ ∃ v, t = { s with rdata := s.rdata ++ [v] } := by
  cases h with
  | read => exact .inr ⟨_, rfl⟩
  | _ => exact .inl rfl

end

/-- Settles O18, from the three outcomes of a `VADDR` write. -/
theorem vaddrWriteLeavesOffOrLegal : Obligations.VaddrWriteLeavesOffOrLegal := by
  intro s t v h
  obtain rfl : writeVaddr v s = t := Host.Outcome.next.inj h
  obtain ⟨-, ht⟩ | ⟨r, -, hvalid, -, ht⟩ | ⟨-, -, ht⟩ := writeVaddr_cases v s
  · rw [ht]; exact .inl rfl
  · rw [ht]; exact .inr ((validMode_iff _ _ _ _).1 hvalid).2
  · rw [ht]; exact .inl rfl

/-- Settles O40, from what each effect does to the line. -/
theorem lineChangesOnlyByFireAckOrReset : Obligations.LineChangesOnlyByFireAckOrReset := by
  intro i s t h
  obtain hsame | ⟨hhigh, rfl⟩ | ⟨hlow, hwriter⟩ := (effect_of_exec h).irq_cases
  · simp +contextual [hsame]
  · simp [hhigh]
  · simp [hlow, hwriter]

/-- Settles O42, from what each effect does to the time. -/
theorem onlyAdvanceMovesTime : Obligations.OnlyAdvanceMovesTime := by
  intro i s t h
  obtain hsame | ⟨hle, hadvance⟩ := (effect_of_exec h).now_cases
  · exact ⟨hsame.ge, fun hne => absurd hsame hne⟩
  · exact ⟨hle, fun _ => hadvance⟩

/-- Settles O51, from what each effect does to the latch and the flag. -/
theorem latchAndFlagWritersAreTheRuled : Obligations.LatchAndFlagWritersAreTheRuled := by
  intro i s t h
  refine ⟨(effect_of_exec h).act_cases.resolve_left, ?_⟩
  obtain hsame | ⟨hset, hwriter⟩ | ⟨hclear, hwriter⟩ := (effect_of_exec h).fullRedraw_cases
  · simp +contextual [hsame]
  · simp [hset, hwriter]
  · simp [hclear, hwriter]

/-- Settles O52, from what each effect does to the palette and the stream. -/
theorem paletteAndStreamWritersAreTheRuled : Obligations.PaletteAndStreamWritersAreTheRuled := by
  intro i s t h
  exact ⟨(effect_of_exec h).pal_cases.resolve_left, (effect_of_exec h).notes_cases.resolve_left⟩

/-- Settles O53, from what each effect does to each register and to the returned values. -/
theorem storedRegisterWritersAreTheRuled : Obligations.StoredRegisterWritersAreTheRuled := by
  intro i s t h
  have heffect := effect_of_exec h
  exact ⟨heffect.vblPeriod_cases.resolve_left, heffect.depth_cases.resolve_left,
    heffect.width_cases.resolve_left, heffect.height_cases.resolve_left, heffect.vaddr_cases.resolve_left,
    heffect.rdata_cases.resolve_left⟩

/-! ## The strobe's read, and attach -/

/-- An aligned 32-bit access of the register block decodes by its offset and direction (R103, R107). -/
theorem decode_register {w : BitVec 1} {o : Offset} {e : Event} (he : e.desc = mkDesc 0 w 2 o)
    (ho : o.toNat % 4 = 0) : decode e = decodeRegister e := by
  rw [decode_bus 0 w 2 o e he (.inl rfl)]
  simp [ho]

/-- The read at offset 0 of the register block (R103, R130). -/
theorem decode_rdVblAck {e : Event} (h : e.desc = 0x10000000) : decode e = .rdVblAck := by
  have he : e.desc = mkDesc 0 0 2 0 := h.trans (by decide)
  rw [decode_register he rfl]
  simp [decodeRegister, he]

/-- Settles O12, by running the read. -/
theorem vblAckReadReturnsZero : Obligations.VblAckReadReturnsZero :=
  fun _ _ => ⟨decode_rdVblAck, rfl⟩

/-- Settles O47: the state after attach is `State.reset`, and the fields are its own. -/
theorem attachStartsInTheOffState : Obligations.AttachStartsInTheOffState :=
  ⟨rfl, State.reset, rfl, rfl, rfl, rfl, rfl, rfl, rfl, rfl, rfl, rfl, rfl, rfl, rfl, rfl⟩

end Sys2Proof.Machine

/-! System memory and its readers: what a pass makes of the bytes and the palette, that a pass and every other
instruction but a guest write leaves the bytes alone, and the bus accesses that reach no register and no entry. -/

namespace Sys2Proof.Machine

/-! ## Where a redraw pass takes its pixels from (R190, R199, R223) -/

/-- Everything a routine reads of memory and palette is in the pixels its scanline decodes to. -/
theorem scanlinePixels_congr {s t : State} {d a w : Nat}
    (h : ∀ x, x < w → t.palRead (pixelIndex t d a x) = s.palRead (pixelIndex s d a x)) :
    scanlinePixels t d a w = scanlinePixels s d a w := by
  apply List.ext_getElem?
  intro x
  by_cases hx : x < 16 * (w / 16)
  · rw [scanlinePixels_getElem? _ _ _ _ _ hx, scanlinePixels_getElem? _ _ _ _ _ hx, h x (by omega)]
  · rw [List.getElem?_eq_none (by simpa using hx), List.getElem?_eq_none (by simpa using hx)]

/-- The state with system memory and the palette, from which a pass takes its pixels, exchanged. -/
def State.withSource (mem : Memory) (pal : Vector Color 256) (s : State) : State := { s with mem := mem, pal := pal }

/-- Memory `mem` with palette `pal` shows the frame that `s` shows in mode `m`. -/
def SameFrame (mem : Memory) (pal : Vector Color 256) (m : ActiveMode) (s : State) : Prop :=
  ∀ x y, x < m.width → y < m.height → framePixel (s.withSource mem pal) m x y = framePixel s m x y

section
variable {s : State} {m : ActiveMode} {mem : Memory} {pal : Vector Color 256}

/-- The frame of a state depends on its memory and palette alone. -/
theorem SameFrame.of_same_source {u : State} (h : SameFrame mem pal m s) (hm : u.mem = s.mem)
    (hp : u.pal = s.pal) : SameFrame mem pal m u := by
  intro x y hx hy
  rw [framePixel_congr s u m x y hm hp, ← h x y hx hy]
  exact framePixel_congr (s.withSource mem pal) (u.withSource mem pal) m x y rfl rfl

theorem writeRow_withSource (y : Nat) (px : List Color) :
    (s.withSource mem pal).writeRow y px = (s.writeRow y px).withSource mem pal := by
  unfold State.writeRow
  rw [apply_ite (State.withSource mem pal)]
  rfl

theorem closeRun_withSource (run : Option Nat) (y : Nat) :
    closeRun m run y (s.withSource mem pal) = (closeRun m run y s).withSource mem pal := by
  cases run <;> rfl

theorem resizeToMode_withSource :
    resizeToMode m (s.withSource mem pal) = (resizeToMode m s).withSource mem pal := by
  unfold resizeToMode
  rw [apply_ite (State.withSource mem pal)]
  rfl

/-- Over a source that shows the same frame, the routine of a row draws the same row. -/
theorem runRoutine_withSource (h : SameFrame mem pal m s) (hr : routineDepth m.decode = m.depth) {y : Nat}
    (hy : y < m.height) :
    runRoutine m.decode (m.rowStart y) y m.width (s.withSource mem pal) =
      (runRoutine m.decode (m.rowStart y) y m.width s).withSource mem pal := by
  rw [runRoutine_eq, runRoutine_eq, hr, scanlinePixels_congr fun x hx => h x y hx hy, writeRow_withSource]

theorem redrawRows_withSource (full : Bool) (snap : List Nat) {n y : Nat} (run : Option Nat)
    (h : SameFrame mem pal m s) (hr : routineDepth m.decode = m.depth) (hn : y + n ≤ m.height) :
    redrawRows m full snap n y run (s.withSource mem pal) =
      (redrawRows m full snap n y run s).withSource mem pal := by
  induction n generalizing y run s with
  | zero => exact closeRun_withSource run y
  | succ n ih =>
    unfold redrawRows
    split
    · rw [runRoutine_withSource h hr (by omega)]
      exact ih _ (h.of_same_source (by rw [runRoutine_frame]) (by rw [runRoutine_frame])) (by omega)
    · rw [closeRun_withSource]
      exact ih _ (h.of_same_source (by rw [closeRun_frame]) (by rw [closeRun_frame])) (by omega)

/-- A pass depends on memory and palette only through the frame they show, and leaves both (R199, R223). -/
theorem redrawPass_withSource (h : SameFrame mem pal m s) (hr : routineDepth m.decode = m.depth) :
    redrawPass m (s.withSource mem pal) = (redrawPass m s).withSource mem pal := by
  have hstart : SameFrame mem pal m ((resizeToMode m s).clearDirtyIn m.base.toNat m.frameEnd) :=
    h.of_same_source (by rw [resizeToMode_frame]; rfl) (by rw [resizeToMode_frame]; rfl)
  rw [redrawPass_eq, redrawPass_eq, resizeToMode_withSource]
  exact congrArg State.clearFullRedraw
    (redrawRows_withSource s.fullRedraw (s.dirtyIn m.base.toNat m.frameEnd) none hstart hr (by omega))

end

theorem ActiveMode.rowStart_succ (m : ActiveMode) (y : Nat) : m.rowStart (y + 1) = m.rowStart y + m.stride := by
  unfold ActiveMode.rowStart
  rw [Nat.succ_mul, Nat.add_assoc]

theorem ActiveMode.rowStart_le (m : ActiveMode) {y z : Nat} (h : y ≤ z) : m.rowStart y ≤ m.rowStart z :=
  Nat.add_le_add_left (Nat.mul_le_mul_right _ h) _

/-- In a legal mode a row of the frame depends on memory only through its own bytes (R199, R225). -/
theorem framePixel_congr_row {s t : State} {m : ActiveMode} {x y : Nat} (hl : m.Legal) (hx : x < m.width)
    (hp : t.pal = s.pal)
    (h : ∀ c, m.rowStart y ≤ c → c < m.rowStart (y + 1) → Memory.read t.mem c = Memory.read s.mem c) :
    framePixel t m x y = framePixel s m x y := by
  have hrow : m.rowStart y + m.width * m.depth / 8 = m.rowStart (y + 1) := by
    rw [m.rowStart_succ, hl.stride]
  unfold framePixel State.palRead
  rw [hp, pixelIndex_congr t s m.depth (m.rowStart y) x m.width hl.width_group hx (by rwa [hrow])]

/-- In a legal mode the frame depends on memory only through the bytes of the Frame Buffer View (R41, R199). -/
theorem sameFrame_of_read_eq {s : State} {m : ActiveMode} {mem : Memory} (hl : m.Legal)
    (h : ∀ c, m.base.toNat ≤ c → c < m.frameEnd → Memory.read mem c = Memory.read s.mem c) :
    SameFrame mem s.pal m s := by
  intro x y hx hy
  refine framePixel_congr_row hl hx rfl fun c hlo hhi => h c ?_ ?_
  · exact le_trans (Nat.le_add_right _ _) hlo
  · exact lt_of_lt_of_le hhi (m.rowStart_le hy)

theorem execRedraw_on {s : State} {m : ActiveMode} (h : s.act = some m) :
    exec .redraw s = .next (redrawPass m s) := by
  change execRedraw s = _
  unfold execRedraw
  rw [h]

/-- Settles O34: two memories that agree on the frame's bytes show the same frame, and a pass is made of the frame
shown alone. -/
theorem redrawReadsOnlyTheFrame : Obligations.RedrawReadsOnlyTheFrame := by
  intro s t m mem hon hl hmem h
  rw [execRedraw_on hon] at h
  cases h
  have hpal : (redrawPass m s).pal = s.pal := by rw [redrawPass_frame]
  have hpass := calc redrawPass m { s with mem := mem }
    _ = (redrawPass m s).withSource mem s.pal :=
      redrawPass_withSource (sameFrame_of_read_eq hl hmem) hl.routine
    _ = { redrawPass m s with mem := mem } := by rw [← hpal]; rfl
  rw [← hpass]
  exact execRedraw_on hon

/-! ## What a pass leaves on the surface (R223) -/

section
variable {s : State} {m : ActiveMode} {x y : Nat}

/-- A pass draws a row that a due full redraw or a logged byte makes dirty (R190, R223). -/
theorem redrawPass_pixel_dirty (hl : m.Legal) (hx : x < m.width) (hy : y < m.height) (hd : RowDirty s m y) :
    (redrawPass m s).pixel x y = some (framePixel s m x y) := by
  obtain ⟨hw, hh⟩ := resizeToMode_size m s
  have hx16 : x < 16 * (m.width / 16) := by have := hl.width_group; omega
  rw [redrawPass_eq, ← framePixel_congr s ((resizeToMode m s).clearDirtyIn m.base.toNat m.frameEnd) m x y
    (by rw [resizeToMode_frame]; rfl) (by rw [resizeToMode_frame]; rfl)]
  exact redrawRows_pixel_dirty m _ _ _ _ none _ x y hl.routine hx16 (hw ▸ hx) (hh ▸ hy) (Nat.zero_le y)
    (by omega) ((rowDirty_snapshot m s y hy).2 hd)

/-- A pass that finds the surface at its size leaves a clean row as it was (R223, R228). -/
theorem redrawPass_pixel_clean (hy : y < m.height) (hw : s.surfW = m.width) (hh : s.surfH = m.height)
    (hd : ¬ RowDirty s m y) : (redrawPass m s).pixel x y = s.pixel x y := by
  rw [redrawPass_eq, resizeToMode_same m s hw hh]
  have hclean := mt (rowDirty_snapshot m s y hy).1 hd
  exact redrawRows_pixel_clean m _ _ _ _ none (s.clearDirtyIn m.base.toNat m.frameEnd) x y
    (.inr (.inr (Bool.eq_false_iff.2 hclean)))

/-- After a pass every row shows the frame: the drawn ones by the pass, the others because they already did. -/
theorem redrawPass_pixel (hl : m.Legal) (hon : s.act = some m) (hsize : SizeInv s)
    (hs : SurfaceShowsFrame s) (hx : x < m.width) (hy : y < m.height) :
    (redrawPass m s).pixel x y = some (framePixel s m x y) := by
  by_cases hd : RowDirty s m y
  · exact redrawPass_pixel_dirty hl hx hy hd
  · obtain ⟨hfull, hlog⟩ := not_or.1 hd
    have hfull : s.fullRedraw = false := Bool.eq_false_iff.2 hfull
    obtain ⟨hw, hh⟩ := hsize m hon hfull
    rw [redrawPass_pixel_clean hy hw hh hd]
    exact hs m hon hfull y hy hlog x hx

theorem redrawPass_showsFrame (hi : Inv s) (hon : s.act = some m) (hs : SurfaceShowsFrame s) :
    SurfaceShowsFrame (redrawPass m s) := by
  intro n hn _ y hy _ x hx
  have hact : (redrawPass m s).act = s.act := by rw [redrawPass_frame]
  obtain rfl : m = n := Option.some.inj (hon.symm.trans (hact.symm.trans hn))
  obtain ⟨hl, -⟩ := hi.latch.1 m hon
  rw [redrawPass_pixel hl hon hi.size hs hx hy,
    framePixel_congr s (redrawPass m s) m x y (by rw [redrawPass_frame]) (by rw [redrawPass_frame])]

/-- A row that holds no logged byte after a guest write held none before, and the write changed no byte of it. -/
theorem guestWrite_clean_row {a : Nat} {bs : List Byte} (h : ¬ RowLogged (s.guestWrite a bs) m y) :
    ¬ RowLogged s m y ∧ ∀ c, m.rowStart y ≤ c → c < m.rowStart (y + 1) →
      Memory.read (s.guestWrite a bs).mem c = Memory.read s.mem c := by
  refine ⟨fun ⟨c, hc, hrow⟩ => h ⟨c, (s.mem_guestWrite_dirty a c bs).2 (.inl hc), hrow⟩, fun c hlo hhi => ?_⟩
  refine s.guestWrite_read_other a c bs ?_
  by_contra hin
  exact h ⟨c, (s.mem_guestWrite_dirty a c bs).2 (.inr (by omega)), hlo, hhi⟩

/-- A guest write logs each byte it changes, so the rows it leaves clean still show the frame (R89, R220). -/
theorem guestWrite_showsFrame (hlatch : LatchInv s) (hs : SurfaceShowsFrame s) (a : Nat) (bs : List Byte) :
    SurfaceShowsFrame (s.guestWrite a bs) := by
  intro m hon hfull y hy hlog x hx
  obtain ⟨hclean, hrow⟩ := guestWrite_clean_row hlog
  rw [State.guestWrite_frame] at hon hfull
  obtain ⟨hl, -⟩ := hlatch.1 m hon
  rw [framePixel_congr_row hl hx (by rw [State.guestWrite_frame]) hrow, State.guestWrite_frame]
  exact hs m hon hfull y hy hclean x hx

end

/-! ## Every step but a palette write keeps the shown frame (R89) -/

/-- Whatever the decoder gives has a descriptor (R107). -/
theorem encode_decode_isSome (e : Event) : (encode (decode e)).isSome := by
  unfold decode
  split_ifs
  · rfl
  · unfold decodeEventCode; split <;> rfl
  · unfold decodeBadsize; split_ifs <;> rfl
  · unfold decodeMisaligned; split_ifs <;> rfl
  · unfold decodeRegister; split <;> split <;> rfl
  · unfold decodePalette; split_ifs <;> rfl

theorem encode_routineInstr (r : Routine) (a y w : Nat) : encode (routineInstr r a y w) = none := by
  cases r <;> rfl

/-- The decoder gives no routine: those have no descriptor and are reached from a pass alone (R113). -/
theorem decode_ne_routine (e : Event) (r : Routine) (a y w : Nat) : decode e ≠ routineInstr r a y w := by
  intro h
  have hsome := encode_decode_isSome e
  rw [h, encode_routineInstr] at hsome
  cases hsome

/-- Every effect but a palette write and a routine run outside a pass keeps that the clean rows show the frame. -/
theorem Effect.showsFrame {i : Instr} {s t : State} (h : Effect i s t) (hi : Inv s) (hs : SurfaceShowsFrame s)
    (hpal : ∀ ix v, i ≠ .palWrite ix v) (hroutine : ∀ r a y w, i ≠ routineInstr r a y w) :
    SurfaceShowsFrame t := by
  cases h with
  | vaddrOff | vaddrRejected | reset => exact fun _ hon => nomatch hon
  | vaddrAccepted => exact fun _ _ hdue => nomatch hdue
  | palWrite => exact absurd rfl (hpal _ _)
  | routine => exact absurd rfl (hroutine _ _ _ _)
  | guestWrite =>
    rw [← State.guestWrite_frame]
    exact guestWrite_showsFrame hi.latch hs _ _
  | redrawOn hon =>
    rw [← redrawPass_frame]
    exact redrawPass_showsFrame hi hon hs
  | _ => exact hs

/-- Settles O35: a step that runs an event has one of the effects; the decoder gives no routine, and every effect
left but the palette write keeps the frame shown. -/
theorem stepKeepsSurfaceShowingFrame : Obligations.StepKeepsSurfaceShowingFrame := by
  intro s t hi hs h hpal
  obtain ⟨-, rfl⟩ | ⟨e, rest, hnext, heffect⟩ := step_next h
  · exact hs
  · exact heffect.showsFrame (hi.setPending rest) hs (hpal e rest · · hnext) (decode_ne_routine e)

/-! ## Who writes system memory (R72, R220) -/

/-- Only a guest write changes system memory. -/
theorem Effect.mem_cases {i : Instr} {s t : State} (h : Effect i s t) :
    t.mem = s.mem ∨ ∃ a b bs, i = .memw a b bs ∧ t.mem = (s.guestWrite a (b :: bs)).mem := by
  cases h with
  | guestWrite => exact .inr ⟨_, _, _, rfl, rfl⟩
  | _ => exact .inl rfl

/-- Settles O50: only a guest write changes memory, and none of its bytes lies outside its range. -/
theorem onlyGuestWritesChangeSystemMemory : Obligations.OnlyGuestWritesChangeSystemMemory := by
  intro i s t h
  obtain hsame | ⟨a, b, bs, rfl, hmem⟩ := (effect_of_exec h).mem_cases
  · rw [hsame]
    exact ⟨fun _ _ => rfl, fun _ _ _ _ _ _ => rfl⟩
  · refine ⟨fun hno => absurd rfl (hno a b bs), ?_⟩
    rintro _ _ _ ⟨rfl⟩ c hc
    rw [hmem]
    exact s.guestWrite_read_other a c (b :: bs) (by rw [List.length_cons]; omega)

/-! ## Accesses that reach no register and no entry (R77, R78, R110) -/

/-- What the decoder gives for a wrong width or a misaligned offset returns 0 on a read and does nothing else. -/
theorem exec_ignoredAccess {i : Instr} {e : Event} (s : State) (hi : i = decodeBadsize e ∨ i = decodeMisaligned e) :
    (descW e.desc = 0 → exec i s = .next { s with rdata := s.rdata ++ [0] }) ∧
      (descW e.desc = 1 → exec i s = .next s) := by
  refine ⟨fun hread => ?_, fun hwrite => ?_⟩
  · rcases hi with rfl | rfl
    · unfold decodeBadsize; split_ifs <;> rfl
    · unfold decodeMisaligned; split_ifs <;> rfl
  · have hno : descW e.desc ≠ 0 := by simp [hwrite]
    rcases hi with rfl | rfl
    · unfold decodeBadsize; split_ifs <;> rfl
    · unfold decodeMisaligned; split_ifs <;> rfl

theorem step_of_pending {s : State} {e : Event} {rest : List Event} (h : s.pending = e :: rest) :
    step s = exec (decode e) (s.setPending rest) := by
  unfold step
  rw [h]

/-- Settles O9: the decoder sends such an access to the wrong-width or the misaligned rows, and those do nothing
but return 0 on a read. -/
theorem misalignedOrWrongWidthAccessIsNoOp : Obligations.MisalignedOrWrongWidthAccessIsNoOp := by
  intro s e rest hnext hrsv hcls hbad
  rw [step_of_pending hnext, decode_bus _ _ _ _ e (mkDesc_fields e.desc hrsv).symm hcls]
  by_cases hz : descSz e.desc ≠ 2
  · rw [if_pos hz]
    exact exec_ignoredAccess _ (.inl rfl)
  · rw [if_neg hz, if_pos (hbad.resolve_left hz)]
    exact exec_ignoredAccess _ (.inr rfl)

/-- A bus access of another width decodes by its block and direction (R107). -/
theorem decode_badsize {c : BitVec 2} {w : BitVec 1} {z : BitVec 2} {o : Offset} {e : Event}
    (he : e.desc = mkDesc c w z o) (hc : c = 0 ∨ c = 1) (hz : z ≠ 2) : decode e = decodeBadsize e := by
  rw [decode_bus c w z o e he hc, if_pos hz]

/-- Settles O20, by decoding each of the four descriptors and running what they decode to. -/
theorem wrongWidthAccessesAreIgnored : Obligations.WrongWidthAccessesAreIgnored := by
  intro s e z o v hz
  refine ⟨fun he => ?_, fun he => ?_, fun he => ?_, fun he => ?_, rfl, rfl, rfl, rfl⟩
  · rw [decode_badsize he (.inl rfl) hz]; simp [decodeBadsize, he]
  · rw [decode_badsize he (.inl rfl) hz]; simp [decodeBadsize, he]
  · rw [decode_badsize he (.inr rfl) hz]; simp [decodeBadsize, he]
  · rw [decode_badsize he (.inr rfl) hz]; simp [decodeBadsize, he]

/-! ## Repeated writes (R82) -/

/-- A `VADDR` write of a valid configuration latches it (R141). -/
theorem execWrVaddr_of_valid {s : State} {v : Word} {r : Routine} (hv : v ≠ 0)
    (hvalid : validMode s.depth s.width s.height v = true) (hr : dispatch s.depth = some r) :
    exec (.wrVaddr v) s = .next { s with
      vaddr := v, act := some (latchMode s.depth s.width s.height v r), fullRedraw := true } := by
  obtain ⟨h0, -⟩ | ⟨r', -, -, hr', ht⟩ | ⟨-, hbad, -⟩ := writeVaddr_cases v s
  · exact absurd h0 hv
  · obtain rfl := Option.some.inj (hr'.symm.trans hr)
    exact congrArg Host.Outcome.next ht
  · simp [hvalid] at hbad

/-- A period write above the threshold arms the timer (R133). -/
theorem execWrVblPeriod_of_gt {s : State} {p : Word} (hp : Config.vblMinNs.val < p.toNat) :
    exec (.wrVblPeriod p) s = .next { s with vblPeriod := p, deadline := some (s.now + p.toNat) } := by
  obtain ⟨-, ht⟩ | ⟨hle, -⟩ := writePeriod_cases p s
  · exact congrArg Host.Outcome.next ht
  · exact absurd hp (Nat.not_lt.2 hle)

theorem palWrite_palWrite (i : Nat) (v : Color) (s : State) :
    (s.palWrite i v).palWrite i v = s.palWrite i v := by
  unfold State.palWrite
  simp

/-- Settles O21: a stored value overwrites itself, an accepted `VADDR` write is accepted again in the same
configuration, and an arming period write counts from its own time. -/
theorem repeatedWrites : Obligations.RepeatedWrites := by
  refine ⟨?_, ?_, ?_⟩
  · rintro s t v ix i (rfl | rfl | rfl | rfl | rfl) h <;> cases h
    · rfl
    · rfl
    · rfl
    · rfl
    · exact congrArg Host.Outcome.next (palWrite_palWrite ix.toNat v s)
  · intro s t v h hon
    obtain rfl : writeVaddr v s = t := Host.Outcome.next.inj h
    obtain ⟨-, ht⟩ | ⟨r, hv, hvalid, hr, ht⟩ | ⟨-, -, ht⟩ := writeVaddr_cases v s
    · exact absurd (by rw [ht]) hon
    · rw [ht]
      exact execWrVaddr_of_valid hv hvalid hr
    · exact absurd (by rw [ht]) hon
  · intro s t p u hp h
    rw [execWrVblPeriod_of_gt hp] at h
    cases h
    exact execWrVblPeriod_of_gt hp

/-! ## The byte order of a plane word (R73) -/

/-- Settles O27: the two bytes are the high and the low half of the number read. -/
theorem planeWordsAreBigEndian : Obligations.PlaneWordsAreBigEndian := by
  intro s a k hk
  have hread : s.memRead a 2 =
      2 ^ 8 * (Memory.read s.mem a).toNat + (Memory.read s.mem (a + 1)).toNat := by
    rw [memRead_two]; omega
  refine ⟨hread, ?_, ?_⟩
  · rw [hread, Nat.testBit_two_pow_mul_add _ (BitVec.isLt _), if_neg (by omega), Nat.add_sub_cancel]
    rfl
  · rw [hread, Nat.testBit_two_pow_mul_add _ (BitVec.isLt _), if_pos hk]
    rfl

end Sys2Proof.Machine

/-! The encoding (R100 to R115): the opcode map tried in increasing priority, decoding and encoding as inverses of
each other, what a step does with the event it decodes, and the runs of the pseudo-instructions. -/

namespace Sys2Proof

/-! ## Operand ranges and offset masks -/

theorem regOffsetOor_iff (o : Offset) : regOffsetOor o = true ↔ o.toNat % 4 = 0 ∧ 0x18 ≤ o.toNat := by
  simp [regOffsetOor]

theorem palOffsetOor_iff (o : Offset) : palOffsetOor o = true ↔ o.toNat % 4 = 0 ∧ 0x400 ≤ o.toNat := by
  simp [palOffsetOor]

theorem offsetMisaligned_iff (o : Offset) : offsetMisaligned o = true ↔ o.toNat % 4 ≠ 0 := by
  simp [offsetMisaligned]

theorem sizeBad_iff (z : BitVec 2) : sizeBad z = true ↔ z ≠ 2 := by
  simp [sizeBad]

theorem palOffset_toNat_mod_four (i : BitVec 8) : (palOffset i).toNat % 4 = 0 := by
  rw [palOffset_toNat]; omega

theorem palOffset_toNat_le (i : BitVec 8) : (palOffset i).toNat ≤ 0x3FC := by
  have := i.isLt
  rw [palOffset_toNat]; omega

theorem palIndex_eq_ofNat (o : Offset) : palIndex o = BitVec.ofNat 8 (o.toNat / 4) := by
  apply BitVec.eq_of_toNat_eq
  rw [palIndex, BitVec.extractLsb'_toNat, Nat.shiftRight_eq_div_pow, BitVec.toNat_ofNat]

theorem palOffset_palIndex {o : Offset} (halign : o.toNat % 4 = 0) (hentry : o.toNat ≤ 0x3FC) :
    palOffset (palIndex o) = o := by
  apply BitVec.eq_of_toNat_eq
  rw [palOffset_toNat, palIndex_eq_ofNat, BitVec.toNat_ofNat]
  omega

/-- The low two bits of an offset are its alignment. -/
theorem offset_and_align_eq_zero (o : Offset) : o &&& 0x0003 = 0 ↔ o.toNat % 4 = 0 := by
  rw [← BitVec.toNat_inj, BitVec.toNat_and]
  exact Eq.congr_left (Nat.and_two_pow_sub_one_eq_mod _ 2)

/-- The offset mask of the palette entries' rows: what it looks at lies above and below the index (R104, R108). -/
theorem offset_and_entry_eq_zero (o : Offset) : o &&& 0xFC03 = 0 ↔ o.toNat % 4 = 0 ∧ o.toNat ≤ 0x3FC := by
  have hsplit : o &&& 0xFC03 = o.extractLsb' 10 6 ++ 0#8 ++ o.extractLsb' 0 2 := by
    apply BitVec.eq_of_getLsbD_eq
    intro i hi
    simp only [BitVec.getLsbD_extractLsb', BitVec.getLsbD_append, BitVec.getLsbD_and]
    interval_cases i <;> simp
  rw [hsplit, ← BitVec.toNat_inj]
  simp only [BitVec.toNat_append, BitVec.extractLsb'_toNat, Nat.shiftRight_eq_div_pow, Nat.shiftLeft_eq,
    BitVec.ofNat_eq_ofNat, BitVec.toNat_ofNat, Nat.or_eq_zero_iff, Nat.zero_mod, pow_zero, Nat.div_one, Nat.or_zero]
  omega

/-! ## Descriptors (R101, R109) -/

/-- A descriptor is its five fields. -/
theorem desc_ext_iff {d d' : Word} : d = d' ↔ descCls d = descCls d' ∧ descW d = descW d' ∧
    descSz d = descSz d' ∧ descRsv d = descRsv d' ∧ descOff d = descOff d' := by
  refine ⟨fun h => by simp [h], fun ⟨hc, hw, hz, hr, ho⟩ => BitVec.eq_of_toNat_eq ?_⟩
  rw [desc_toNat d, desc_toNat d', hc, hw, hz, hr, ho]

/-- The offset of a built descriptor is its low half. -/
theorem mkDesc_eq_or (c : BitVec 2) (w : BitVec 1) (z : BitVec 2) (o : Offset) :
    mkDesc c w z o = mkDesc c w z 0 ||| o.setWidth 32 := by
  apply BitVec.eq_of_getLsbD_eq
  intro i hi
  simp only [mkDesc, BitVec.getLsbD_append, BitVec.getLsbD_or, BitVec.getLsbD_setWidth]
  interval_cases i <;> simp

/-- The reserved descriptors as R109 lists them. -/
theorem descReserved_iff (d : Word) : descReserved d = true ↔ descCls d = 3 ∨ descRsv d ≠ 0 ∨
    (descCls d = 2 ∧ (descW d = 1 ∨ descSz d ≠ 0 ∨ 4 < (descOff d).toNat)) := by
  have hw : descW d ≠ 0 ↔ descW d = 1 := by
    rcases BitVec.eq_zero_or_eq_one (descW d) with h | h <;> simp [h]
  simp only [descReserved, Bool.or_eq_true, Bool.and_eq_true, bne_iff_ne, beq_iff_eq, decide_eq_true_eq, hw,
    or_assoc]
  rw [or_left_comm]

/-- The kinds of descriptors: a reserved one, one of the five event codes, or a bus access (R101, R109). -/
theorem desc_cases (d : Word) :
    descReserved d = true ∨ (∃ o : Offset, o.toNat ≤ 4 ∧ d = mkDesc 2 0 0 o) ∨
      ∃ c w z o, (c = 0 ∨ c = 1) ∧ d = mkDesc c w z o := by
  by_cases hres : descReserved d = true
  · exact .inl hres
  · right
    rw [descReserved_iff] at hres
    push Not at hres
    obtain ⟨hcls, hrsv, hevent⟩ := hres
    have hfields := mkDesc_fields d hrsv
    by_cases h2 : descCls d = 2
    · obtain ⟨hw, hz, ho⟩ := hevent h2
      rw [h2, hz, (BitVec.eq_zero_or_eq_one (descW d)).resolve_right hw] at hfields
      exact .inl ⟨descOff d, ho, hfields.symm⟩
    · have hbus : ∀ c : BitVec 2, c ≠ 2 → c ≠ 3 → c = 0 ∨ c = 1 := by decide
      exact .inr ⟨_, _, _, _, hbus _ h2 hcls, hfields.symm⟩

/-! ## The opcode map (R108) -/

theorem OpcodeRow.hits_iff (r : OpcodeRow) (d : Word) : r.hits d = true ↔ d &&& r.mask = r.pattern := by
  simp [OpcodeRow.hits]

/-- `(desc & mask) == match`, field by field. -/
theorem OpcodeRow.hits_iff_fields (r : OpcodeRow) (d : Word) : r.hits d = true ↔
    descCls d &&& descCls r.mask = descCls r.pattern ∧ descW d &&& descW r.mask = descW r.pattern ∧
      descSz d &&& descSz r.mask = descSz r.pattern ∧ descRsv d &&& descRsv r.mask = descRsv r.pattern ∧
        descOff d &&& descOff r.mask = descOff r.pattern := by
  rw [OpcodeRow.hits_iff, desc_ext_iff]
  simp only [descCls, descW, descSz, descRsv, descOff, BitVec.extractLsb'_and]

/-- Two rows of one priority whose patterns agree where both masks look are one row: a check of the finite table. -/
theorem opcodeMap_eq_of_agree : ∀ r ∈ opcodeMap, ∀ q ∈ opcodeMap, r.priority = q.priority →
    r.pattern &&& q.mask = q.pattern &&& r.mask → r = q := by decide

/-- Settles O4: patterns that one descriptor hits agree where both masks look. -/
theorem rowsOfOnePriorityNeverOverlap : Obligations.RowsOfOnePriorityNeverOverlap := by
  intro r hr q hq d hrd hqd hpri
  rw [OpcodeRow.hits_iff] at hrd hqd
  refine opcodeMap_eq_of_agree r hr q hq hpri ?_
  calc
    r.pattern &&& q.mask = d &&& r.mask &&& q.mask := by rw [hrd]
    _ = d &&& q.mask &&& r.mask := by ac_rfl
    _ = q.pattern &&& r.mask := by rw [hqd]

theorem opcodeMap_one_le_priority : ∀ r ∈ opcodeMap, 1 ≤ r.priority := by decide

theorem opcodeMap_priority : ∀ r ∈ opcodeMap, r.priority ∈ [1, 2, 3, 4, 9] := by decide

/-- The row that a descriptor hits among those of one priority (R107, R108). -/
def rowOfPriority (d : Word) (p : Nat) : Option OpcodeRow :=
  opcodeMap.find? fun r => r.priority == p && r.hits d

theorem selectRow_eq_findSome? (d : Word) : selectRow d = [1, 2, 3, 4, 9].findSome? (rowOfPriority d) := rfl

section
variable {d : Word} {r : OpcodeRow}

/-- At most one row of a priority is hit, so the search finds whichever it is. -/
theorem rowOfPriority_eq_some {p : Nat} :
    rowOfPriority d p = some r ↔ r ∈ opcodeMap ∧ r.priority = p ∧ r.hits d = true := by
  have hsound : ∀ q, rowOfPriority d p = some q → q ∈ opcodeMap ∧ q.priority = p ∧ q.hits d = true :=
    fun q hq => ⟨List.mem_of_find?_eq_some hq, by simpa using List.find?_some hq⟩
  refine ⟨hsound r, fun ⟨hmem, hpri, hhit⟩ => ?_⟩
  have hsome : (rowOfPriority d p).isSome :=
    List.find?_isSome.2 ⟨r, hmem, by simp [hpri, hhit]⟩
  obtain ⟨q, hq⟩ := Option.isSome_iff_exists.1 hsome
  obtain ⟨hqmem, hqpri, hqhit⟩ := hsound q hq
  rw [hq, rowsOfOnePriorityNeverOverlap r hmem q hqmem d hhit hqhit (hpri.trans hqpri.symm)]

/-- A row that a descriptor hits is selected if none of a lower priority is hit. -/
theorem selectRow_eq_some (hr : r ∈ opcodeMap) (hhit : r.hits d = true)
    (hfirst : ∀ q ∈ opcodeMap, q.hits d = true → r.priority ≤ q.priority) : selectRow d = some r := by
  have hfound := rowOfPriority_eq_some.2 ⟨hr, rfl, hhit⟩
  have hnone : ∀ p, p < r.priority → rowOfPriority d p = none := by
    intro p hp
    rw [Option.eq_none_iff_forall_ne_some]
    intro q hq
    obtain ⟨hmem, rfl, hqhit⟩ := rowOfPriority_eq_some.1 hq
    exact absurd hp (Nat.not_lt.2 (hfirst q hmem hqhit))
  have hpri := opcodeMap_priority r hr
  simp only [List.mem_cons, List.not_mem_nil, or_false] at hpri
  rw [selectRow_eq_findSome?]
  obtain hp | hp | hp | hp | hp := hpri <;> rw [hp] at hfound <;> simp [hfound, hnone, hp]

end

/-! ### What the rows of each priority look at -/

/-- Every row but `REFUSE` looks at the whole class, at the direction and at the reserved bits, which it wants 0. -/
theorem opcodeMap_fixed_fields : ∀ q ∈ opcodeMap, q.priority < 9 →
    descCls q.mask = BitVec.allOnes 2 ∧ descW q.mask = BitVec.allOnes 1 ∧ descRsv q.mask = BitVec.allOnes 11 ∧
      descRsv q.pattern = 0 := by decide

/-- A row that is no row of a bus block and not `REFUSE` is one event's descriptor. -/
theorem opcodeMap_event : ∀ q ∈ opcodeMap, q.priority < 9 →
    descCls q.pattern = 0 ∨ descCls q.pattern = 1 ∨
      q.mask = BitVec.allOnes 32 ∧ descReserved q.pattern = false := by decide

/-- The rows of a block before its `_BADSIZE` rows want 32 bits. -/
theorem opcodeMap_size : ∀ q ∈ opcodeMap, q.priority < 4 → descCls q.pattern ≠ 2 →
    descSz q.mask = BitVec.allOnes 2 ∧ descSz q.pattern = 2 := by decide

theorem opcodeMap_anySize : ∀ q ∈ opcodeMap, q.priority = 4 →
    descSz q.mask = 0 ∧ descSz q.pattern = 0 := by decide

/-- The rows of a block before its `_MISALIGNED` rows want an aligned offset. -/
theorem opcodeMap_align : ∀ q ∈ opcodeMap, q.priority < 3 → descCls q.pattern ≠ 2 →
    descOff q.mask &&& 0x0003 = 0x0003 ∧ descOff q.pattern &&& 0x0003 = 0 := by decide

/-- The `_OOR` rows take every aligned offset. -/
theorem opcodeMap_anyAligned : ∀ q ∈ opcodeMap, q.priority = 2 →
    descOff q.mask = 0x0003 ∧ descOff q.pattern = 0 := by decide

theorem opcodeMap_anyOffset : ∀ q ∈ opcodeMap, 3 ≤ q.priority →
    descOff q.mask = 0 ∧ descOff q.pattern = 0 := by decide

/-- The first rows of the register block are the registers. -/
theorem opcodeMap_register : ∀ q ∈ opcodeMap, q.priority < 2 → descCls q.pattern = 0 →
    descOff q.mask = BitVec.allOnes 16 ∧ (descOff q.pattern).toNat < 0x18 := by decide

/-- The first rows of the palette block are the entries. -/
theorem opcodeMap_entry : ∀ q ∈ opcodeMap, q.priority < 2 → descCls q.pattern = 1 →
    descOff q.mask = 0xFC03 ∧ descOff q.pattern = 0 := by decide

/-! ### Which descriptors a row hits, and the row selected for each kind of descriptor -/

section
variable {q r : OpcodeRow} {c : BitVec 2} {w : BitVec 1} {z : BitVec 2} {o : Offset}

theorem OpcodeRow.hits_mkDesc (hq : q ∈ opcodeMap) (hpri : q.priority < 9) : q.hits (mkDesc c w z o) = true ↔
    c = descCls q.pattern ∧ w = descW q.pattern ∧ z &&& descSz q.mask = descSz q.pattern ∧
      o &&& descOff q.mask = descOff q.pattern := by
  obtain ⟨hcls, hw, hrsv, hzero⟩ := opcodeMap_fixed_fields q hq hpri
  simp only [OpcodeRow.hits_iff_fields, descCls_mkDesc, descW_mkDesc, descSz_mkDesc, descRsv_mkDesc, descOff_mkDesc,
    hcls, hw, hrsv, hzero, BitVec.and_allOnes, true_and]

theorem not_reserved_of_hits {d : Word} (hq : q ∈ opcodeMap) (hpri : q.priority < 9) (hhit : q.hits d = true) :
    descReserved d = false := by
  obtain ⟨hcm, -, hrm, hrp⟩ := opcodeMap_fixed_fields q hq hpri
  obtain ⟨hcls, -, -, hrsv, -⟩ := (q.hits_iff_fields d).1 hhit
  rw [hcm, BitVec.and_allOnes] at hcls
  rw [hrm, hrp, BitVec.and_allOnes] at hrsv
  obtain h | h | ⟨hmask, hpat⟩ := opcodeMap_event q hq hpri
  · simp [descReserved, hrsv, hcls, h]
  · simp [descReserved, hrsv, hcls, h]
  · rw [OpcodeRow.hits_iff, hmask, BitVec.and_allOnes] at hhit
    rwa [hhit]

theorem size_of_hits (hq : q ∈ opcodeMap) (hpri : q.priority < 4) (hc : c ≠ 2)
    (hhit : q.hits (mkDesc c w z o) = true) : z = 2 := by
  obtain ⟨rfl, -, hsz, -⟩ := (OpcodeRow.hits_mkDesc hq (by omega)).1 hhit
  obtain ⟨hmask, hpat⟩ := opcodeMap_size q hq hpri hc
  rwa [hmask, hpat, BitVec.and_allOnes] at hsz

theorem aligned_of_hits (hq : q ∈ opcodeMap) (hpri : q.priority < 3) (hc : c ≠ 2)
    (hhit : q.hits (mkDesc c w z o) = true) : o.toNat % 4 = 0 := by
  obtain ⟨rfl, -, -, hoff⟩ := (OpcodeRow.hits_mkDesc hq (by omega)).1 hhit
  obtain ⟨hmask, hpat⟩ := opcodeMap_align q hq hpri hc
  rw [← offset_and_align_eq_zero, ← hpat, ← hoff, BitVec.and_assoc, hmask]

theorem register_of_hits (hq : q ∈ opcodeMap) (hpri : q.priority < 2) (hhit : q.hits (mkDesc 0 w z o) = true) :
    o.toNat < 0x18 := by
  obtain ⟨hcls, -, -, hoff⟩ := (OpcodeRow.hits_mkDesc hq (by omega)).1 hhit
  obtain ⟨hmask, hpat⟩ := opcodeMap_register q hq hpri hcls.symm
  rwa [← hoff, hmask, BitVec.and_allOnes] at hpat

theorem entry_of_hits (hq : q ∈ opcodeMap) (hpri : q.priority < 2) (hhit : q.hits (mkDesc 1 w z o) = true) :
    o.toNat ≤ 0x3FC := by
  obtain ⟨hcls, -, -, hoff⟩ := (OpcodeRow.hits_mkDesc hq (by omega)).1 hhit
  obtain ⟨hmask, hpat⟩ := opcodeMap_entry q hq hpri hcls.symm
  rw [hmask, hpat, offset_and_entry_eq_zero] at hoff
  exact hoff.2

theorem selectRow_reserved {d : Word} (h : descReserved d = true) :
    selectRow d = some ⟨9, "REFUSE", 0x00000000, 0x00000000⟩ := by
  refine selectRow_eq_some (by decide) (by simp [OpcodeRow.hits]) fun q hq hhit => Nat.not_lt.1 fun hlt => ?_
  simp [not_reserved_of_hits hq hlt hhit] at h

theorem selectRow_badsize (hr : r ∈ opcodeMap) (hpri : r.priority = 4) (hc : descCls r.pattern ≠ 2) (hz : z ≠ 2) :
    selectRow (mkDesc (descCls r.pattern) (descW r.pattern) z o) = some r := by
  obtain ⟨hsm, hsp⟩ := opcodeMap_anySize r hr hpri
  obtain ⟨hom, hop⟩ := opcodeMap_anyOffset r hr (by omega)
  refine selectRow_eq_some hr ?_ fun q hq hhit => Nat.not_lt.1 fun hlt => ?_
  · exact (OpcodeRow.hits_mkDesc hr (by omega)).2 ⟨rfl, rfl, by simp [hsm, hsp], by simp [hom, hop]⟩
  · exact hz (size_of_hits hq (by omega) hc hhit)

theorem selectRow_misaligned (hr : r ∈ opcodeMap) (hpri : r.priority = 3) (hc : descCls r.pattern ≠ 2)
    (ho : o.toNat % 4 ≠ 0) : selectRow (mkDesc (descCls r.pattern) (descW r.pattern) 2 o) = some r := by
  obtain ⟨hsm, hsp⟩ := opcodeMap_size r hr (by omega) hc
  obtain ⟨hom, hop⟩ := opcodeMap_anyOffset r hr (by omega)
  refine selectRow_eq_some hr ?_ fun q hq hhit => Nat.not_lt.1 fun hlt => ?_
  · exact (OpcodeRow.hits_mkDesc hr (by omega)).2 ⟨rfl, rfl, by simp [hsm, hsp], by simp [hom, hop]⟩
  · exact ho (aligned_of_hits hq (by omega) hc hhit)

theorem selectRow_aligned (hr : r ∈ opcodeMap) (hpri : r.priority = 2) (hc : descCls r.pattern ≠ 2)
    (halign : o.toNat % 4 = 0)
    (hpast : ∀ q ∈ opcodeMap, q.priority < 2 →
      ¬ q.hits (mkDesc (descCls r.pattern) (descW r.pattern) 2 o) = true) :
    selectRow (mkDesc (descCls r.pattern) (descW r.pattern) 2 o) = some r := by
  obtain ⟨hsm, hsp⟩ := opcodeMap_size r hr (by omega) hc
  obtain ⟨hom, hop⟩ := opcodeMap_anyAligned r hr hpri
  refine selectRow_eq_some hr ?_ fun q hq hhit => Nat.not_lt.1 fun hlt => hpast q hq (hpri ▸ hlt) hhit
  refine (OpcodeRow.hits_mkDesc hr (by omega)).2 ⟨rfl, rfl, by simp [hsm, hsp], ?_⟩
  rw [hom, hop, offset_and_align_eq_zero, halign]

theorem selectRow_registerOor (hr : r ∈ opcodeMap) (hpri : r.priority = 2) (hc : descCls r.pattern = 0)
    (ho : regOffsetOor o = true) : selectRow (mkDesc 0 (descW r.pattern) 2 o) = some r := by
  obtain ⟨halign, hpast⟩ := (regOffsetOor_iff o).1 ho
  rw [← hc]
  refine selectRow_aligned hr hpri (by simp [hc]) halign fun q hq hlt hhit => ?_
  rw [hc] at hhit
  exact absurd (register_of_hits hq hlt hhit) (Nat.not_lt.2 hpast)

theorem selectRow_paletteOor (hr : r ∈ opcodeMap) (hpri : r.priority = 2) (hc : descCls r.pattern = 1)
    (ho : palOffsetOor o = true) : selectRow (mkDesc 1 (descW r.pattern) 2 o) = some r := by
  obtain ⟨halign, hpast⟩ := (palOffsetOor_iff o).1 ho
  rw [← hc]
  refine selectRow_aligned hr hpri (by simp [hc]) halign fun q hq hlt hhit => ?_
  rw [hc] at hhit
  have := entry_of_hits hq hlt hhit
  omega

theorem selectRow_paletteEntry (hr : r ∈ opcodeMap) (hpri : r.priority = 1) (hc : descCls r.pattern = 1)
    (i : BitVec 8) : selectRow (mkDesc 1 (descW r.pattern) 2 (palOffset i)) = some r := by
  obtain ⟨hsm, hsp⟩ := opcodeMap_size r hr (by omega) (by simp [hc])
  obtain ⟨hom, hop⟩ := opcodeMap_entry r hr (by omega) hc
  refine selectRow_eq_some hr ?_ fun q hq _ => hpri ▸ opcodeMap_one_le_priority q hq
  refine (OpcodeRow.hits_mkDesc hr (by omega)).2 ⟨hc.symm, rfl, by simp [hsm, hsp], ?_⟩
  rw [hom, hop, offset_and_entry_eq_zero]
  exact ⟨palOffset_toNat_mod_four i, palOffset_toNat_le i⟩

end

theorem selectRow_name {d : Word} {r : OpcodeRow} (h : selectRow d = some r) :
    (selectRow d).map OpcodeRow.name = some r.name := by
  rw [h]; rfl

/-- The row selected for the descriptor of an instruction has its mnemonic. Where the descriptor has no free
operand bits the table is run; the other rows are named. -/
theorem selectRow_encode {i : Instr} {e : Event} (hwf : wellFormed i = true) (henc : encode i = some e) :
    (selectRow e.desc).map OpcodeRow.name = some (mnemonic i) := by
  cases i with
  | rdVblAck | wrVblAck | rdVblPeriod | wrVblPeriod | rdDepth | wrDepth | rdWidth | wrWidth | rdHeight | wrHeight
  | rdVaddr | wrVaddr | redraw | fire | reset | memw | advance => cases henc; dsimp only; rfl
  | rdRegOor =>
    cases henc
    exact selectRow_name (selectRow_registerOor (r := ⟨2, "RD_REG_OOR", 0x10000000, 0xFFFF0003⟩)
      (by decide) rfl rfl hwf)
  | wrRegOor =>
    cases henc
    exact selectRow_name (selectRow_registerOor (r := ⟨2, "WR_REG_OOR", 0x30000000, 0xFFFF0003⟩)
      (by decide) rfl rfl hwf)
  | palReadOor =>
    cases henc
    exact selectRow_name (selectRow_paletteOor (r := ⟨2, "PAL_READ_OOR", 0x50000000, 0xFFFF0003⟩)
      (by decide) rfl rfl hwf)
  | palWriteOor =>
    cases henc
    exact selectRow_name (selectRow_paletteOor (r := ⟨2, "PAL_WRITE_OOR", 0x70000000, 0xFFFF0003⟩)
      (by decide) rfl rfl hwf)
  | rdRegMisaligned =>
    cases henc
    exact selectRow_name (selectRow_misaligned (r := ⟨3, "RD_REG_MISALIGNED", 0x10000000, 0xFFFF0000⟩)
      (by decide) rfl (by decide) ((offsetMisaligned_iff _).1 hwf))
  | wrRegMisaligned =>
    cases henc
    exact selectRow_name (selectRow_misaligned (r := ⟨3, "WR_REG_MISALIGNED", 0x30000000, 0xFFFF0000⟩)
      (by decide) rfl (by decide) ((offsetMisaligned_iff _).1 hwf))
  | palReadMisaligned =>
    cases henc
    exact selectRow_name (selectRow_misaligned (r := ⟨3, "PAL_READ_MISALIGNED", 0x50000000, 0xFFFF0000⟩)
      (by decide) rfl (by decide) ((offsetMisaligned_iff _).1 hwf))
  | palWriteMisaligned =>
    cases henc
    exact selectRow_name (selectRow_misaligned (r := ⟨3, "PAL_WRITE_MISALIGNED", 0x70000000, 0xFFFF0000⟩)
      (by decide) rfl (by decide) ((offsetMisaligned_iff _).1 hwf))
  | rdRegBadsize =>
    cases henc
    exact selectRow_name (selectRow_badsize (r := ⟨4, "RD_REG_BADSIZE", 0x00000000, 0xE7FF0000⟩)
      (by decide) rfl (by decide) ((sizeBad_iff _).1 hwf))
  | wrRegBadsize =>
    cases henc
    exact selectRow_name (selectRow_badsize (r := ⟨4, "WR_REG_BADSIZE", 0x20000000, 0xE7FF0000⟩)
      (by decide) rfl (by decide) ((sizeBad_iff _).1 hwf))
  | palReadBadsize =>
    cases henc
    exact selectRow_name (selectRow_badsize (r := ⟨4, "PAL_READ_BADSIZE", 0x40000000, 0xE7FF0000⟩)
      (by decide) rfl (by decide) ((sizeBad_iff _).1 hwf))
  | palWriteBadsize =>
    cases henc
    exact selectRow_name (selectRow_badsize (r := ⟨4, "PAL_WRITE_BADSIZE", 0x60000000, 0xE7FF0000⟩)
      (by decide) rfl (by decide) ((sizeBad_iff _).1 hwf))
  | palRead i =>
    cases henc
    exact selectRow_name (selectRow_paletteEntry (r := ⟨1, "PAL_READ", 0x50000000, 0xFFFFFC03⟩)
      (by decide) rfl rfl i)
  | palWrite i =>
    cases henc
    exact selectRow_name (selectRow_paletteEntry (r := ⟨1, "PAL_WRITE", 0x70000000, 0xFFFFFC03⟩)
      (by decide) rfl rfl i)
  | refuse => cases henc; exact selectRow_name (selectRow_reserved hwf)
  | decode1 | decode2 | decode4 | decode8 => cases henc

end Sys2Proof

namespace Sys2Proof.Machine

/-! ## What each kind of descriptor decodes to (R107) -/

section
variable {c : BitVec 2} {w : BitVec 1} {z : BitVec 2} {o : Offset} {e : Event}

theorem decode_reserved (h : descReserved e.desc = true) : decode e = .refuse e.desc := by
  unfold decode
  rw [if_pos h]

theorem decode_misaligned (he : e.desc = mkDesc c w 2 o) (hc : c = 0 ∨ c = 1) (ho : o.toNat % 4 ≠ 0) :
    decode e = decodeMisaligned e := by
  rw [decode_bus c w 2 o e he hc, if_neg (by simp), if_pos ho]

theorem decode_palette (he : e.desc = mkDesc 1 w 2 o) (ho : o.toNat % 4 = 0) : decode e = decodePalette e := by
  rw [decode_bus 1 w 2 o e he (.inr rfl)]
  simp [ho]

theorem decode_registerOor (he : e.desc = mkDesc 0 w 2 o) (ho : regOffsetOor o = true) :
    decode e = if w = 0 then .rdRegOor o else .wrRegOor o e.data := by
  obtain ⟨halign, hpast⟩ := (regOffsetOor_iff o).1 ho
  rw [decode_register he halign]
  simp only [decodeRegister, he, descW_mkDesc, descOff_mkDesc]
  split_ifs
  · split
    case h_7 => rfl
    all_goals omega
  · split
    case h_7 => rfl
    all_goals omega

theorem decode_paletteOor (he : e.desc = mkDesc 1 w 2 o) (ho : palOffsetOor o = true) :
    decode e = if w = 0 then .palReadOor o else .palWriteOor o e.data := by
  obtain ⟨halign, hpast⟩ := (palOffsetOor_iff o).1 ho
  rw [decode_palette he halign]
  simp only [decodePalette, he, descW_mkDesc, descOff_mkDesc]
  rw [if_neg (by omega)]

theorem decode_paletteEntry (he : e.desc = mkDesc 1 w 2 o) (halign : o.toNat % 4 = 0) (hentry : o.toNat ≤ 0x3FC) :
    decode e = if w = 0 then .palRead (palIndex o) else .palWrite (palIndex o) e.data := by
  rw [decode_palette he halign]
  simp only [decodePalette, he, descW_mkDesc, descOff_mkDesc]
  rw [if_pos hentry]

end

/-- Settles O1: each kind of descriptor decodes by its row, and the fields of a built descriptor are the operands. -/
theorem decodeOfEncodeIsTheInstruction : Obligations.DecodeOfEncodeIsTheInstruction := by
  intro i e hwf henc
  cases i with
  | rdVblAck | wrVblAck | rdVblPeriod | wrVblPeriod | rdDepth | wrDepth | rdWidth | wrWidth | rdHeight | wrHeight
  | rdVaddr | wrVaddr =>
    cases henc
    rw [decode_register rfl rfl]
    simp [decodeRegister]
  | redraw | fire | reset | memw | advance =>
    cases henc
    rw [decode_event _ _ rfl (by decide)]
    simp [decodeEventCode]
  | rdRegOor | wrRegOor => cases henc; rw [decode_registerOor rfl hwf]; rfl
  | palReadOor | palWriteOor => cases henc; rw [decode_paletteOor rfl hwf]; rfl
  | rdRegMisaligned | wrRegMisaligned =>
    cases henc
    rw [decode_misaligned rfl (.inl rfl) ((offsetMisaligned_iff _).1 hwf)]
    simp [decodeMisaligned]
  | palReadMisaligned | palWriteMisaligned =>
    cases henc
    rw [decode_misaligned rfl (.inr rfl) ((offsetMisaligned_iff _).1 hwf)]
    simp [decodeMisaligned]
  | rdRegBadsize | wrRegBadsize =>
    cases henc
    rw [decode_badsize rfl (.inl rfl) ((sizeBad_iff _).1 hwf)]
    simp [decodeBadsize]
  | palReadBadsize | palWriteBadsize =>
    cases henc
    rw [decode_badsize rfl (.inr rfl) ((sizeBad_iff _).1 hwf)]
    simp [decodeBadsize]
  | palRead i | palWrite i =>
    cases henc
    rw [decode_paletteEntry rfl (palOffset_toNat_mod_four i) (palOffset_toNat_le i)]
    simp
  | refuse => cases henc; exact decode_reserved hwf
  | decode1 | decode2 | decode4 | decode8 => cases henc

/-! ## Every descriptor spells an instruction -/

/-- The well-formed instruction `i` is spelled by the descriptor `d`. -/
def SpelledBy (i : Instr) (d : Word) : Prop :=
  wellFormed i = true ∧ ∃ e : Event, encode i = some e ∧ e.desc = d

theorem offset_eq_of_toNat {o : Offset} {n : Nat} (h : o.toNat = n) : o = BitVec.ofNat 16 n := by
  rw [← h, BitVec.ofNat_toNat, BitVec.setWidth_eq]

section
variable {c : BitVec 2} {w : BitVec 1} {z : BitVec 2} {o : Offset} {e : Event}

/-- The events by their code (R105). -/
theorem spelledBy_event (he : e.desc = mkDesc 2 0 0 o) (ho : o.toNat ≤ 4) :
    SpelledBy (decode e) e.desc := by
  rw [decode_event o e he ho, he]
  simp only [decodeEventCode, he, descOff_mkDesc]
  interval_cases hcode : o.toNat
  all_goals
    obtain rfl := offset_eq_of_toNat hcode
    exact ⟨rfl, _, rfl, rfl⟩

theorem spelledBy_badsize (he : e.desc = mkDesc c w z o) (hc : c = 0 ∨ c = 1) (hz : z ≠ 2) :
    SpelledBy (decode e) e.desc := by
  rw [decode_badsize he hc hz, he]
  have hwf := (sizeBad_iff z).2 hz
  rcases hc with rfl | rfl <;> rcases BitVec.eq_zero_or_eq_one w with rfl | rfl <;>
    simpa [decodeBadsize, he] using ⟨hwf, _, rfl, rfl⟩

theorem spelledBy_misaligned (he : e.desc = mkDesc c w 2 o) (hc : c = 0 ∨ c = 1) (ho : o.toNat % 4 ≠ 0) :
    SpelledBy (decode e) e.desc := by
  rw [decode_misaligned he hc ho, he]
  have hwf := (offsetMisaligned_iff o).2 ho
  rcases hc with rfl | rfl <;> rcases BitVec.eq_zero_or_eq_one w with rfl | rfl <;>
    simpa [decodeMisaligned, he] using ⟨hwf, _, rfl, rfl⟩

theorem spelledBy_register (he : e.desc = mkDesc 0 w 2 o) (ho : o.toNat % 4 = 0) :
    SpelledBy (decode e) e.desc := by
  by_cases hpast : 0x18 ≤ o.toNat
  · have hwf := (regOffsetOor_iff o).2 ⟨ho, hpast⟩
    rw [decode_registerOor he hwf, he]
    rcases BitVec.eq_zero_or_eq_one w with rfl | rfl <;> exact ⟨hwf, _, rfl, rfl⟩
  · rw [decode_register he ho, he]
    simp only [decodeRegister, he, descOff_mkDesc, descW_mkDesc]
    obtain ⟨n, hn⟩ : ∃ n, o.toNat = 4 * n := ⟨o.toNat / 4, by omega⟩
    have hlt : n < 6 := by omega
    rw [hn]
    interval_cases n
    all_goals
      obtain rfl := offset_eq_of_toNat hn
      rcases BitVec.eq_zero_or_eq_one w with rfl | rfl <;> exact ⟨rfl, _, rfl, rfl⟩

theorem spelledBy_palette (he : e.desc = mkDesc 1 w 2 o) (ho : o.toNat % 4 = 0) :
    SpelledBy (decode e) e.desc := by
  by_cases hentry : o.toNat ≤ 0x3FC
  · rw [decode_paletteEntry he ho hentry, he]
    have hdesc : mkDesc 1 w 2 (palOffset (palIndex o)) = mkDesc 1 w 2 o := by rw [palOffset_palIndex ho hentry]
    rcases BitVec.eq_zero_or_eq_one w with rfl | rfl <;> exact ⟨rfl, _, rfl, hdesc⟩
  · have hwf := (palOffsetOor_iff o).2 ⟨ho, by omega⟩
    rw [decode_paletteOor he hwf, he]
    rcases BitVec.eq_zero_or_eq_one w with rfl | rfl <;> exact ⟨hwf, _, rfl, rfl⟩

end

/-- Every descriptor spells what it decodes to (R107). -/
theorem spelledBy_decode (e : Event) : SpelledBy (decode e) e.desc := by
  obtain hres | ⟨o, ho, he⟩ | ⟨c, w, z, o, hc, he⟩ := desc_cases e.desc
  · rw [decode_reserved hres]
    exact ⟨hres, _, rfl, rfl⟩
  · exact spelledBy_event he ho
  · by_cases hz : z = 2
    · subst hz
      by_cases ho : o.toNat % 4 = 0
      · obtain rfl | rfl := hc
        · exact spelledBy_register he ho
        · exact spelledBy_palette he ho
      · exact spelledBy_misaligned he hc ho
    · exact spelledBy_badsize he hc hz

/-- Settles O2, kind by kind of descriptor. -/
theorem encodeOfDecodeIsTheDescriptor : Obligations.EncodeOfDecodeIsTheDescriptor := spelledBy_decode

/-- Settles O3: the row selected for a descriptor is the one for the instruction it spells. -/
theorem decodeSelectsTheOpcodeMapRow : Obligations.DecodeSelectsTheOpcodeMapRow := by
  intro e
  obtain ⟨hwf, e', henc, hdesc⟩ := spelledBy_decode e
  rw [← hdesc]
  exact selectRow_encode hwf henc

/-! ## Where an instruction stops (R109, R260, R263, R268) -/

section
variable {s : State}

theorem exec_fire_of_deadline (hd : s.deadline = some s.now) :
    exec .fire s = .next { s with irq := true, deadline := some (s.now + s.vblPeriod.toNat) } := by
  change execFire s = _
  unfold execFire
  rw [hd]
  exact if_pos rfl

theorem exec_fire_of_ne_deadline (hd : s.deadline ≠ some s.now) : exec .fire s = .refused .fireNotEnabled := by
  change execFire s = _
  unfold execFire
  split
  next d hsome => exact if_neg fun hnow => hd (hsome.trans (congrArg some hnow.symm))
  next => rfl

theorem exec_advance_of_enabled {u : Nat} (hnow : s.now ≤ u) (hd : ∀ d, s.deadline = some d → u ≤ d) :
    exec (.advance u) s = .next { s with now := u } :=
  if_pos ((advanceEnabled_iff u s).2 ⟨hnow, hd⟩)

theorem exec_advance_of_not_enabled {u : Nat} (h : ¬ (s.now ≤ u ∧ ∀ d, s.deadline = some d → u ≤ d)) :
    exec (.advance u) s = .refused .advanceNotEnabled :=
  if_neg fun henabled => h ((advanceEnabled_iff u s).1 henabled)

theorem exec_redraw_completes (s : State) : ∃ t, exec .redraw s = .next t := by
  change ∃ t, execRedraw s = .next t
  unfold execRedraw
  split <;> exact ⟨_, rfl⟩

/-- An instruction completes, or it is one of the three that the model refuses, each under its own name. -/
theorem exec_completes_or_refuses (i : Instr) (s : State) :
    (∃ t, exec i s = .next t) ∨
    (∃ d, i = .refuse d ∧ exec i s = .refused (.reservedDescriptor d)) ∨
    (i = .fire ∧ s.deadline ≠ some s.now ∧ exec i s = .refused .fireNotEnabled) ∨
    ∃ u, i = .advance u ∧ (u < s.now ∨ ∃ d, s.deadline = some d ∧ d < u) ∧
      exec i s = .refused .advanceNotEnabled := by
  cases i with
  | refuse d => exact .inr (.inl ⟨d, rfl, rfl⟩)
  | fire =>
    by_cases hd : s.deadline = some s.now
    · exact .inl ⟨_, exec_fire_of_deadline hd⟩
    · exact .inr (.inr (.inl ⟨rfl, hd, exec_fire_of_ne_deadline hd⟩))
  | advance u =>
    by_cases h : s.now ≤ u ∧ ∀ d, s.deadline = some d → u ≤ d
    · exact .inl ⟨_, exec_advance_of_enabled h.1 h.2⟩
    · refine .inr (.inr (.inr ⟨u, rfl, ?_, exec_advance_of_not_enabled h⟩))
      by_contra hno
      push Not at hno
      exact h hno
  | redraw => exact .inl (exec_redraw_completes s)
  | _ => exact .inl ⟨_, rfl⟩

end

theorem decode_advance {e : Event} (he : e.desc = 0x80000004) : decode e = .advance e.time := by
  have hdesc : e.desc = mkDesc 2 0 0 4 := he
  rw [decode_event 4 e hdesc (by decide)]
  simp [decodeEventCode, hdesc]

/-- Settles O8: a step stops where the decoded instruction does, and its descriptor is the one that spells it. -/
theorem stepStopsOnlyWhereTheRulesSay : Obligations.StepStopsOnlyWhereTheRulesSay := by
  intro s e rest hnext
  rw [step_of_pending hnext]
  obtain ⟨hwf, e', henc, hdesc⟩ := spelledBy_decode e
  obtain hcompletes | ⟨d, hi, hstop⟩ | ⟨hi, hd, hstop⟩ | ⟨u, hi, hlate, hstop⟩ :=
    exec_completes_or_refuses (decode e) (s.setPending rest)
  · exact .inl hcompletes
  · rw [hi] at hwf henc
    cases henc
    subst hdesc
    exact .inr (.inl ⟨hwf, hstop⟩)
  · rw [hi] at henc
    cases henc
    exact .inr (.inr (.inl ⟨hdesc.symm, hd, hstop⟩))
  · rw [hi] at henc
    cases henc
    obtain rfl : e.time = u := Instr.advance.inj ((decode_advance hdesc.symm).symm.trans hi)
    exact .inr (.inr (.inr ⟨hdesc.symm, hlate, hstop⟩))

/-! ## A step, the dispatch table and the delivery of events -/

/-- Settles O7: by the definition of a step. -/
theorem stepRunsTheDecodedEvent : Obligations.StepRunsTheDecodedEvent := by
  refine ⟨?_, fun s hnil => ?_⟩
  · rintro s e rest _ hnext rfl -
    exact step_of_pending hnext
  · unfold step
    rw [hnil]

/-- Settles O5, by running the decoder. -/
theorem writtenOutDescriptorsDecode : Obligations.WrittenOutDescriptorsDecode :=
  ⟨rfl, rfl, rfl, rfl, rfl, rfl, rfl, rfl, rfl⟩

theorem dispatch_eq_none {d : Word} (h1 : d ≠ 1) (h2 : d ≠ 2) (h4 : d ≠ 4) (h8 : d ≠ 8) : dispatch d = none := by
  unfold dispatch
  split
  next h => exact absurd (BitVec.eq_of_toNat_eq h) h1
  next h => exact absurd (BitVec.eq_of_toNat_eq h) h2
  next h => exact absurd (BitVec.eq_of_toNat_eq h) h4
  next h => exact absurd (BitVec.eq_of_toNat_eq h) h8
  next => rfl

theorem depth_of_dispatch {d : Word} {r : Routine} (h : dispatch d = some r) : d = 1 ∨ d = 2 ∨ d = 4 ∨ d = 8 := by
  by_contra hno
  push Not at hno
  obtain ⟨h1, h2, h4, h8⟩ := hno
  rw [dispatch_eq_none h1 h2 h4 h8] at h
  cases h

/-- Settles O6: the four rows, no other, and each routine by the depth it is listed under. -/
theorem dispatchIsKeyedByDepth : Obligations.DispatchIsKeyedByDepth :=
  ⟨rfl, rfl, rfl, rfl, fun _ => dispatch_eq_none, fun r _ _ _ => by cases r <;> rfl⟩

/-- Settles O10: the decoder looks for a reserved descriptor first. -/
theorem reservedDescriptorIsRefused : Obligations.ReservedDescriptorIsRefused :=
  fun e _ h => ⟨decode_reserved ((descReserved_iff e.desc).2 h), rfl⟩

/-- The window test of R111. -/
theorem presented_iff (e : Event) : presented e = true ↔
    ¬ ((descCls e.desc = 0 ∧ Config.regWindow ≤ (descOff e.desc).toNat) ∨
      (descCls e.desc = 1 ∧ Config.palWindow ≤ (descOff e.desc).toNat)) := by
  unfold presented
  split_ifs with h0 h1
  · simp [h0]
  · simp [h1]
  · exact iff_of_true rfl (by tauto)

/-- Settles O11: what the platform presents comes last, and nothing else happens. -/
theorem accessOutsideTheWindowIsNotDelivered : Obligations.AccessOutsideTheWindowIsNotDelivered := by
  intro s e
  unfold State.deliver
  simp only [presented_iff, ite_not]
  rfl

/-! ## The palette block (R104, R170, R172) -/

theorem palRead_of_lt {s : State} {i : Nat} (h : i < 256) : s.palRead i = s.pal[i] := by
  simp [State.palRead, h]

/-- Settles O22: both descriptors decode to their entry, and the write is an update of one entry of the store. -/
theorem paletteReadsAndWrites : Obligations.PaletteReadsAndWrites := by
  intro s e o ix v
  refine ⟨fun he halign hentry => ?_, fun he halign hentry => ?_, ?_, s.pal.setIfInBounds ix.toNat v, rfl, fun j => ?_⟩
  · rw [decode_paletteEntry (he.trans (mkDesc_eq_or 1 0 2 o).symm) halign hentry, palIndex_eq_ofNat]
    rfl
  · rw [decode_paletteEntry (he.trans (mkDesc_eq_or 1 1 2 o).symm) halign hentry, palIndex_eq_ofNat]
    rfl
  · rw [← palRead_of_lt]
    rfl
  · rw [Vector.getElem_setIfInBounds]
    simp only [BitVec.toNat_inj, eq_comm]

/-! ## Runs of the pseudo-instructions (R115) -/

section
variable {s t : State} {e : Event} {i : Instr} {rest : List Event} {u : Nat}

/-- A run whose first event spells `i` goes on from where `i` leads. -/
theorem runSteps_of_encode (k : Nat) (hnext : s.pending = e :: rest) (hwf : wellFormed i = true)
    (henc : encode i = some e) (hexec : exec i { s with pending := rest } = .next t) :
    runSteps (k + 1) s = runSteps k t := by
  have hstep : step s = .next t := by
    rw [step_of_pending hnext, decodeOfEncodeIsTheInstruction i e hwf henc]
    exact hexec
  rw [runSteps, hstep]

theorem runSteps_advance (k : Nat) (hnext : s.pending = advanceEvent u :: rest) (hnow : s.now ≤ u)
    (hd : ∀ d, s.deadline = some d → u ≤ d) :
    runSteps (k + 1) s = runSteps k { s with now := u, pending := rest } :=
  runSteps_of_encode k hnext (i := .advance u) rfl rfl (exec_advance_of_enabled hnow hd)

theorem runSteps_fire (k : Nat) (hnext : s.pending = fireEvent :: rest) (hd : s.deadline = some s.now) :
    runSteps (k + 1) s = runSteps k { s with
      irq := true, deadline := some (s.now + s.vblPeriod.toNat), pending := rest } :=
  runSteps_of_encode k hnext (i := .fire) rfl rfl (exec_fire_of_deadline hd)

end

/-- Settles O54: the three geometry writes store, and the `VADDR` write latches what they stored. -/
theorem setmodeTurnsTheDisplayOn : Obligations.SetmodeTurnsTheDisplayOn := by
  intro s d w h a r rest hnext hr ha heven hgroup hw hw' hh hh'
  have hvalid : validMode d w h a = true :=
    (validMode_iff d w h a).2 ⟨ha, heven, depth_of_dispatch hr, hgroup, hw, hw', hh, hh'⟩
  refine (runSteps_of_encode 3 hnext (i := .wrDepth d) rfl rfl rfl).trans ?_
  refine (runSteps_of_encode 2 rfl (i := .wrWidth w) rfl rfl rfl).trans ?_
  refine (runSteps_of_encode 1 rfl (i := .wrHeight h) rfl rfl rfl).trans ?_
  exact runSteps_of_encode 0 rfl (i := .wrVaddr a) rfl rfl (execWrVaddr_of_valid ha hvalid hr)

theorem waitEvents_of_idle {s : State} (n : Nat) (hd : s.deadline = none) :
    waitEvents n s = [advanceEvent (s.now + n)] := by
  unfold waitEvents
  rw [hd]
  rfl

theorem waitEvents_of_armed {s : State} {d : Nat} (n : Nat) (hd : s.deadline = some d) :
    waitEvents n s =
      waitFirings s.vblPeriod.toNat (s.now + n) (s.now + n + 1 - d) d ++ [advanceEvent (s.now + n)] := by
  unfold waitEvents
  rw [hd]

/-- Settles O55: the one event is an advance, which an Idle timer does not hold back. -/
theorem waitOnAnIdleTimerMovesTimeAlone : Obligations.WaitOnAnIdleTimerMovesTimeAlone := by
  intro s n rest hidle hnext
  rw [waitEvents_of_idle n hidle] at hnext ⊢
  refine ⟨rfl, runSteps_advance 0 hnext (Nat.le_add_right _ _) fun d hd => ?_⟩
  rw [hidle] at hd
  cases hd

/-- Running `n` steps from `s`, whose armed deadline is `d`, fires at every deadline up to time `T` and ends at `T`
with `rest` pending (R115). -/
def FiresUpTo (T d : Nat) (rest : List Event) (n : Nat) (s : State) : Prop :=
  ∃ k : Nat,
    runSteps n s = .next { s with
      now := T
      irq := s.irq || decide (0 < k)
      deadline := some (d + k * s.vblPeriod.toNat)
      pending := rest } ∧
    n = 2 * k + 1 ∧
    T < d + k * s.vblPeriod.toNat ∧
    ∀ j, j < k → d + j * s.vblPeriod.toNat ≤ T

section
variable {s : State} {T d : Nat} {rest : List Event}

/-- With no firing due, the closing advance is the whole of `wait`. -/
theorem firesUpTo_of_lt (hd : s.deadline = some d) (hT : s.now ≤ T) (hlt : T < d)
    (hnext : s.pending = advanceEvent T :: rest) : FiresUpTo T d rest 1 s := by
  refine ⟨0, ?_, rfl, by simpa using hlt, fun j hj => absurd hj (Nat.not_lt_zero j)⟩
  rw [runSteps_advance 0 hnext hT fun _ hd' => Option.some.inj (hd.symm.trans hd') ▸ hlt.le]
  simp [runSteps, hd]

/-- A firing due is one round of an advance to it and the firing itself; the rest is due a period later. -/
theorem firesUpTo_of_le {n : Nat} {es : List Event} (hd : s.deadline = some d) (hnow : s.now ≤ d) (hle : d ≤ T)
    (hnext : s.pending = advanceEvent d :: fireEvent :: es)
    (hrest : FiresUpTo T (d + s.vblPeriod.toNat) rest n
      { s with now := d, irq := true, deadline := some (d + s.vblPeriod.toNat), pending := es }) :
    FiresUpTo T d rest (n + 2) s := by
  obtain ⟨k, hrun, hn, hpast, hdue⟩ := hrest
  have hshift (j : Nat) : d + s.vblPeriod.toNat + j * s.vblPeriod.toNat = d + (j + 1) * s.vblPeriod.toNat := by ring
  refine ⟨k + 1, ?_, by omega, ?_, fun j hj => ?_⟩
  · rw [runSteps_advance (n + 1) hnext hnow fun _ hd' => (Option.some.inj (hd.symm.trans hd')).le,
      runSteps_fire n rfl hd, hrun]
    simp [hshift k]
  · rw [← hshift k]
    exact hpast
  · cases j with
    | zero => simpa using hle
    | succ j =>
      rw [← hshift j]
      exact hdue j (by omega)

end

/-- The rounds of `wait` and its closing advance, by induction on the bound on the firings. The bound is no less than
what is due, because every round moves the deadline on by a period of at least 1. -/
theorem firesUpTo_waitFirings (T : Nat) (rest : List Event) (fuel : Nat) : ∀ (d : Nat) (s : State),
    s.deadline = some d → s.now ≤ d → s.now ≤ T → s.vblPeriod ≠ 0 → T + 1 ≤ d + fuel →
    s.pending = waitFirings s.vblPeriod.toNat T fuel d ++ advanceEvent T :: rest →
    FiresUpTo T d rest ((waitFirings s.vblPeriod.toNat T fuel d).length + 1) s := by
  induction fuel with
  | zero =>
    intro d s hd _ hT _ hfuel hnext
    exact firesUpTo_of_lt hd hT (by omega) hnext
  | succ fuel ih =>
    intro d s hd hnow hT hperiod hfuel hnext
    have hpos : 0 < s.vblPeriod.toNat := by
      rw [Nat.pos_iff_ne_zero]
      exact fun h => hperiod (BitVec.eq_of_toNat_eq h)
    rw [waitFirings] at hnext ⊢
    split_ifs at hnext ⊢ with hle
    · exact firesUpTo_of_le hd hnow hle hnext
        (ih (d + s.vblPeriod.toNat) _ rfl (Nat.le_add_right _ _) hle hperiod (by omega) rfl)
    · exact firesUpTo_of_lt hd hT (Nat.not_le.1 hle) hnext

/-- Settles O45: the events of `wait` on an armed timer are its rounds and the closing advance. -/
theorem waitRunsEveryFiringUpToItsTime : Obligations.WaitRunsEveryFiringUpToItsTime := by
  intro s n d rest hd hnow hperiod hnext
  rw [waitEvents_of_armed n hd] at hnext ⊢
  rw [List.append_assoc] at hnext
  rw [List.length_append]
  exact firesUpTo_waitFirings _ rest _ d s hd hnow (Nat.le_add_right _ _) hperiod (by omega) hnext

end Sys2Proof.Machine

/-! The register bank (spec/40_register_bank.md R130 to R146): what each register access decodes to, what it does,
and the accesses that reach no register. -/

namespace Sys2Proof.Machine

/-! ## The accesses of a register (R103) -/

/-- The read of a register. -/
def registerRead : RegName → Instr
  | .vblAck => .rdVblAck
  | .vblPeriod => .rdVblPeriod
  | .depth => .rdDepth
  | .width => .rdWidth
  | .height => .rdHeight
  | .vaddr => .rdVaddr

/-- The write of `v` to a register. -/
def registerWrite (v : Word) : RegName → Instr
  | .vblAck => .wrVblAck v
  | .vblPeriod => .wrVblPeriod v
  | .depth => .wrDepth v
  | .width => .wrWidth v
  | .height => .wrHeight v
  | .vaddr => .wrVaddr v

theorem regOffset_aligned (r : RegName) : (regOffset r).toNat % 4 = 0 := by
  cases r <;> rfl

/-- The descriptor of a register's read decodes to that read, whatever operands come with it. -/
theorem decode_registerRead (r : RegName) {e : Event} (he : e.desc = mkDesc 0 0 2 (regOffset r)) :
    decode e = registerRead r := by
  rw [decode_register he (regOffset_aligned r), decodeRegister, he, descW_mkDesc, descOff_mkDesc]
  cases r <;> rfl

/-- The descriptor of a register's write decodes to the write of the event's data. -/
theorem decode_registerWrite (r : RegName) {e : Event} (he : e.desc = mkDesc 0 1 2 (regOffset r)) :
    decode e = registerWrite e.data r := by
  rw [decode_register he (regOffset_aligned r), decodeRegister, he, descW_mkDesc, descOff_mkDesc]
  cases r <;> rfl

/-- A register's read returns what the register holds and changes nothing else (R81). -/
theorem exec_registerRead (r : RegName) (s : State) :
    exec (registerRead r) s = .next { s with rdata := s.rdata ++ [s.regRead r] } := by
  cases r <;> rfl

/-! ## The outcomes of a `VADDR` write (R141, R142) -/

/-- A nonzero address fails the validation exactly when a clause on it or on the geometry is violated (R142). -/
theorem validMode_eq_false_iff {d w h a : Word} (ha : a ≠ 0) : validMode d w h a = false ↔
    a.toNat % 2 ≠ 0 ∨ (d ≠ 1 ∧ d ≠ 2 ∧ d ≠ 4 ∧ d ≠ 8) ∨ w.toNat % 16 ≠ 0 ∨ w.toNat < 320 ∨ 2048 < w.toNat ∨
      h.toNat < 1 ∨ 2048 < h.toNat := by
  rw [← Bool.not_eq_true, validMode_iff]
  simp only [not_and_or, not_or, not_le, ha, ne_eq, not_true_eq_false, not_false_eq_true, false_or]

/-- A `VADDR` write of 0 turns the display off and keeps the geometry (R141, D8). -/
theorem execWrVaddr_zero (s : State) : exec (.wrVaddr 0) s = .next { s with vaddr := 0, act := none } := by
  obtain ⟨-, ht⟩ | ⟨_, hne, -⟩ | ⟨hne, -⟩ := writeVaddr_cases 0 s
  · exact congrArg Host.Outcome.next ht
  · exact absurd rfl hne
  · exact absurd rfl hne

/-- A `VADDR` write of a nonzero address in an invalid configuration clears the geometry and turns the display off
(R141). -/
theorem execWrVaddr_of_invalid {s : State} {v : Word} (hv : v ≠ 0)
    (hbad : validMode s.depth s.width s.height v = false) :
    exec (.wrVaddr v) s = .next { s with depth := 0, width := 0, height := 0, vaddr := 0, act := none } := by
  obtain ⟨h0, -⟩ | ⟨_, -, hvalid, -⟩ | ⟨-, -, ht⟩ := writeVaddr_cases v s
  · exact absurd h0 hv
  · simp [hvalid] at hbad
  · exact congrArg Host.Outcome.next ht

/-- Settles O17: the three outcomes are off by request, a valid configuration and an invalid one. -/
theorem vaddrWriteValidatesTheMode : Obligations.VaddrWriteValidatesTheMode := by
  intro s e v
  refine ⟨decode_registerWrite .vaddr, ?off, ?accepted, ?rejected⟩
  case off =>
    rintro rfl
    exact execWrVaddr_zero s
  case accepted =>
    intro r hv heven hr hgroup hw hw' hh hh'
    exact execWrVaddr_of_valid hv
      ((validMode_iff _ _ _ _).2 ⟨hv, heven, depth_of_dispatch hr, hgroup, hw, hw', hh, hh'⟩) hr
  case rejected =>
    intro hv hclause
    exact execWrVaddr_of_invalid hv ((validMode_eq_false_iff hv).2 hclause)

/-! ## The stored registers, the strobe and the timer's period -/

/-- Settles O13, register by register. -/
theorem registerReadsReturnTheStoredValue : Obligations.RegisterReadsReturnTheStoredValue :=
  fun s _ => ⟨decode_registerRead .vblPeriod, decode_registerRead .depth, decode_registerRead .width,
    decode_registerRead .height, decode_registerRead .vaddr, exec_registerRead .vblPeriod s,
    exec_registerRead .depth s, exec_registerRead .width s, exec_registerRead .height s, exec_registerRead .vaddr s⟩

/-- Settles O14: each write decodes by its offset, and running it is one store. -/
theorem geometryWritesStoreVerbatim : Obligations.GeometryWritesStoreVerbatim :=
  fun _ _ _ => ⟨decode_registerWrite .depth, decode_registerWrite .width, decode_registerWrite .height, rfl, rfl, rfl⟩

/-- Settles O15: the write decodes by its offset, and running it does not look at the data. -/
theorem vblAckWriteLowersTheLine : Obligations.VblAckWriteLowersTheLine :=
  fun _ _ _ => ⟨decode_registerWrite .vblAck, rfl⟩

/-- A period write at or below the threshold disarms the timer (R133). -/
theorem execWrVblPeriod_of_le {s : State} {p : Word} (hp : p.toNat ≤ Config.vblMinNs.val) :
    exec (.wrVblPeriod p) s = .next { s with vblPeriod := 0, deadline := none } := by
  obtain ⟨hgt, -⟩ | ⟨-, ht⟩ := writePeriod_cases p s
  · exact absurd hp (Nat.not_le.2 hgt)
  · exact congrArg Host.Outcome.next ht

/-- Settles O16, from the two outcomes of a period write. -/
theorem vblPeriodWriteArmsOrDisarms : Obligations.VblPeriodWriteArmsOrDisarms :=
  fun _ _ _ => ⟨decode_registerWrite .vblPeriod, execWrVblPeriod_of_gt, execWrVblPeriod_of_le⟩

/-! ## Accesses that reach no register (R143 to R146) -/

/-- Settles O19: an offset past the registers decodes to the `OOR` rows and a misaligned one to the `MISALIGNED`
rows, none of which looks at the state but to return 0. -/
theorem registerAccessesThatReachNoRegister : Obligations.RegisterAccessesThatReachNoRegister := by
  intro s e o v
  have hread : mkDesc 0 0 2 o = 0x10000000 ||| o.setWidth 32 := mkDesc_eq_or 0 0 2 o
  have hwrite : mkDesc 0 1 2 o = 0x30000000 ||| o.setWidth 32 := mkDesc_eq_or 0 1 2 o
  rw [← hread, ← hwrite]
  refine ⟨fun he halign hpast => ?_, fun he halign hpast => ?_, fun he ho => ?_, fun he ho => ?_, rfl, rfl, rfl, rfl⟩
  · rw [decode_registerOor he ((regOffsetOor_iff o).2 ⟨halign, hpast⟩)]; rfl
  · rw [decode_registerOor he ((regOffsetOor_iff o).2 ⟨halign, hpast⟩)]; rfl
  · rw [decode_misaligned he (.inl rfl) ho]; simp [decodeMisaligned, he]
  · rw [decode_misaligned he (.inl rfl) ho]; simp [decodeMisaligned, he]

end Sys2Proof.Machine

/-! The palette (spec/41_palette.md): the accesses that reach no entry, and the entries that a pass at depth `d` can
reach. -/

namespace Sys2Proof.Machine

/-! ## The entries a pass reads (R181, R190) -/

/-- A number made of one bit for each of the first `d` places is below `2^d`. -/
theorem sum_bits_lt_two_pow (f : Nat → Bool) (d : Nat) :
    ((List.range d).map fun p => (f p).toNat <<< p).sum < 2 ^ d := by
  induction d with
  | zero => simp
  | succ d ih =>
    have htop : (f d).toNat * 2 ^ d ≤ 2 ^ d := mul_le_of_le_one_left (Nat.zero_le _) (Bool.toNat_le (f d))
    rw [List.range_succ, List.map_append, List.sum_append, List.map_singleton, List.sum_singleton,
      Nat.shiftLeft_eq]
    omega

/-- At depth `d` a pixel's index is one of the first `2^d` (R190). -/
theorem pixelIndex_lt (s : State) (d a x : Nat) : pixelIndex s d a x < 2 ^ d :=
  sum_bits_lt_two_pow _ d

/-- Palettes that agree on the first `2^d` entries show the same frame at depth `d`. -/
theorem sameFrame_of_entries_eq {s : State} {m : ActiveMode} {pal : Vector Color 256}
    (h : ∀ j, j < 2 ^ m.depth → pal[j]? = s.pal[j]?) : SameFrame s.mem pal m s :=
  fun _ _ _ _ => congrArg (Option.getD · 0) (h _ (pixelIndex_lt ..))

/-- Settles O24: the two palettes show the same frame, since no index reaches an entry on which they differ, and a
pass is made of the frame shown alone. -/
theorem redrawIgnoresUnusedPaletteEntries : Obligations.RedrawIgnoresUnusedPaletteEntries := by
  intro s t m p hon hl hpal h
  rw [execRedraw_on hon] at h
  cases h
  have hmem : (redrawPass m s).mem = s.mem := by rw [redrawPass_frame]
  have hpass : redrawPass m (s.withSource s.mem p) = (redrawPass m s).withSource s.mem p :=
    redrawPass_withSource (sameFrame_of_entries_eq hpal) hl.routine
  calc exec .redraw (s.withSource s.mem p)
    _ = .next ((redrawPass m s).withSource s.mem p) := by rw [← hpass]; exact execRedraw_on hon
    _ = .next { redrawPass m s with pal := p } := by rw [← hmem]; rfl

/-! ## Accesses that reach no entry (R171, R173, R175, R176) -/

/-- A misaligned palette access decodes by its direction (R107). -/
theorem decode_paletteMisaligned {w : BitVec 1} {o : Offset} {e : Event} (he : e.desc = mkDesc 1 w 2 o)
    (ho : o.toNat % 4 ≠ 0) :
    decode e = if w = 0 then .palReadMisaligned o else .palWriteMisaligned o e.data := by
  rw [decode_misaligned he (.inr rfl) ho]
  simp only [decodeMisaligned, he, descCls_mkDesc, descW_mkDesc, descOff_mkDesc]
  rw [if_neg (by decide)]

/-- Settles O23: an offset past the last entry decodes to the `OOR` rows and a misaligned one to the `MISALIGNED`
rows, and running those reads nothing of the palette. -/
theorem paletteAccessesThatReachNoEntry : Obligations.PaletteAccessesThatReachNoEntry := by
  intro s e o v
  have hread : mkDesc 1 0 2 o = 0x50000000 ||| o.setWidth 32 := mkDesc_eq_or 1 0 2 o
  have hwrite : mkDesc 1 1 2 o = 0x70000000 ||| o.setWidth 32 := mkDesc_eq_or 1 1 2 o
  rw [← hread, ← hwrite]
  exact ⟨fun he halign hpast => decode_paletteOor he ((palOffsetOor_iff o).2 ⟨halign, hpast⟩),
    fun he halign hpast => decode_paletteOor he ((palOffsetOor_iff o).2 ⟨halign, hpast⟩),
    decode_paletteMisaligned, decode_paletteMisaligned, rfl, rfl, rfl, rfl⟩

end Sys2Proof.Machine

/-! The planar decoder (spec/42_planar_decoder.md): what each routine draws, and what it draws when every bit of its
scanline has one value. -/

namespace Sys2Proof.Machine

/-! ## The row a routine draws (R190 to R195, R199, R200) -/

/-- A routine that completes has run, since every one of them does. -/
theorem eq_runRoutine_of_exec {r : Routine} {a y w : Nat} {s t : State}
    (h : exec (routineInstr r a y w) s = .next t) : t = runRoutine r a y w s := by
  rw [exec_routineInstr] at h
  cases h
  rfl

/-- A routine leaves every pixel past its columns as it was (R191). -/
theorem runRoutine_pixel_past (r : Routine) (a y w : Nat) (s : State) {x : Nat} (z : Nat) (hx : w ≤ x) :
    (runRoutine r a y w s).pixel x z = s.pixel x z := by
  have hlen : (scanlinePixels s (routineDepth r) a w).length ≤ x := by
    rw [scanlinePixels_length]
    omega
  rw [runRoutine_eq, State.pixel_writeRow_other y _ s x z (.inr hlen)]

/-- Every routine draws its scanline, at its own number of planes (R192 to R195). -/
theorem drawsScanline_routineInstr (r : Routine) : DrawsScanline (routineDepth r) (routineInstr r) := by
  intro s a y w hw
  refine ⟨(runRoutine r a y w s).surf, ?completes, ?draws, ?keeps⟩ <;> rw [← runRoutine_frame]
  case completes => exact exec_routineInstr r a y w s
  case draws => exact fun x hx => runRoutine_pixel r a y w s x (by omega)
  case keeps =>
    rintro x z (hz | hx)
    · exact runRoutine_pixel_other r a y w s x z hz
    · exact runRoutine_pixel_past r a y w s z hx

/-- Settles O25, routine by routine. -/
theorem routinesDrawTheirScanline : Obligations.RoutinesDrawTheirScanline :=
  ⟨drawsScanline_routineInstr .decode1, drawsScanline_routineInstr .decode2, drawsScanline_routineInstr .decode4,
    drawsScanline_routineInstr .decode8⟩

/-! ## Scanlines of one bit value (R198) -/

/-- Every bit of the `n` bytes of memory at `a` is `b`. -/
def BitsAre (b : Bool) (s : State) (a n : Nat) : Prop :=
  ∀ c, a ≤ c → c < a + n → ∀ k, k < 8 → (Memory.read s.mem c).getLsbD k = b

/-- The two bytes of a plane word of the scanline's groups lie in the scanline's `W * d / 8` bytes (R190, R200). -/
theorem planeWord_in_scanline {d W x p : Nat} (hW : W % 16 = 0) (hx : x < W) (hp : p < d) :
    2 * (x / 16 * d + p) + 1 < W * d / 8 := by
  obtain ⟨k, rfl⟩ : ∃ k, W = 16 * k := ⟨W / 16, by omega⟩
  have hgroup : (x / 16 + 1) * d ≤ k * d := Nat.mul_le_mul_right d (by omega)
  have hbytes : 16 * k * d / 8 = 2 * (k * d) := by
    rw [show 16 * k * d = 8 * (2 * (k * d)) by ring, Nat.mul_div_cancel_left _ (by omega)]
  rw [Nat.succ_mul] at hgroup
  omega

/-- A plane word read from two bytes whose bits are all `b` has that bit in each of its 16 places (R73). -/
theorem testBit_memRead_of_bitsAre {b : Bool} {s : State} {a i : Nat} (h : BitsAre b s a 2) (hi : i < 16) :
    (s.memRead a 2).testBit i = b := by
  by_cases hlow : i < 8
  · obtain ⟨-, -, hbit⟩ := planeWordsAreBigEndian s a i hlow
    rw [hbit, h (a + 1) (by omega) (by omega) i hlow]
  · obtain ⟨-, hbit, -⟩ := planeWordsAreBigEndian s a (i - 8) (by omega)
    rw [← Nat.sub_add_cancel (Nat.not_lt.1 hlow), hbit, h a (by omega) (by omega) (i - 8) (by omega)]

/-- The number with the bit `b` in each of its first `d` places. -/
theorem sum_const_bits (b : Bool) (d : Nat) :
    ((List.range d).map fun p => b.toNat <<< p).sum = b.toNat * (2 ^ d - 1) := by
  induction d with
  | zero => simp
  | succ d ih =>
    have hpow : 2 ^ (d + 1) - 1 = 2 ^ d - 1 + 2 ^ d := by
      have := Nat.two_pow_pos d
      omega
    rw [List.range_succ, List.map_append, List.sum_append, List.map_singleton, List.sum_singleton,
      Nat.shiftLeft_eq, ih, hpow, Nat.mul_add]

/-- In a scanline whose bits are all `b`, every column has `b` in each bit of its index (R198). -/
theorem pixelIndex_of_bitsAre {b : Bool} {s : State} {d a W x : Nat} (hW : W % 16 = 0) (hx : x < W)
    (h : BitsAre b s a (W * d / 8)) : pixelIndex s d a x = b.toNat * (2 ^ d - 1) := by
  have hplane : ∀ p, p < d → (s.memRead (a + 2 * (x / 16 * d + p)) 2).testBit (15 - x % 16) = b := by
    intro p hp
    have hin := planeWord_in_scanline hW hx hp
    exact testBit_memRead_of_bitsAre (fun c hlo hhi => h c (by omega) (by omega)) (by omega)
  unfold pixelIndex
  rw [← sum_const_bits, List.map_congr_left fun p hp => by rw [hplane p (List.mem_range.1 hp)]]

/-- A routine over a scanline whose bits are all `b` draws the palette entry whose index has `b` in each of its bits
(R198). -/
theorem runRoutine_pixel_of_bitsAre {b : Bool} {r : Routine} {s : State} {a w x y : Nat} (hW : w % 16 = 0)
    (h : BitsAre b s a (w * routineDepth r / 8)) (hx : x < w) (hxs : x < s.surfW) (hys : y < s.surfH) :
    (runRoutine r a y w s).pixel x y = some (s.palRead (b.toNat * (2 ^ routineDepth r - 1))) := by
  rw [runRoutine_pixel r a y w s x (by omega) hxs hys, pixelIndex_of_bitsAre hW hx h]

theorem bitsAre_of_zero {s : State} {a n : Nat} (h : ∀ c, a ≤ c → c < a + n → Memory.read s.mem c = 0x00) :
    BitsAre false s a n := by
  intro c hlo hhi k _
  rw [h c hlo hhi]
  exact BitVec.getLsbD_zero

theorem bitsAre_of_ones {s : State} {a n : Nat} (h : ∀ c, a ≤ c → c < a + n → Memory.read s.mem c = 0xFF) :
    BitsAre true s a n := by
  intro c hlo hhi k hk
  have hones : (0xFF : Byte) = BitVec.allOnes 8 := rfl
  rw [h c hlo hhi, hones, BitVec.getLsbD_allOnes, decide_eq_true hk]

/-- Settles O26: all bits 0 and all bits 1 are the two cases of a scanline of one bit value. -/
theorem allZeroAndAllOnePlanes : Obligations.AllZeroAndAllOnePlanes := by
  intro r s t a y w hW h
  rw [eq_runRoutine_of_exec h]
  refine ⟨fun hzero x hx hxs hys => ?_, fun hones x hx hxs hys => ?_⟩
  · rw [runRoutine_pixel_of_bitsAre hW (bitsAre_of_zero hzero) hx hxs hys, Bool.toNat_false, Nat.zero_mul]
  · rw [runRoutine_pixel_of_bitsAre hW (bitsAre_of_ones hones) hx hxs hys, Bool.toNat_true, Nat.one_mul]

end Sys2Proof.Machine

/-! Dirty tracking and the redraw engine (spec/43_redraw_engine.md R220 to R231): what a guest write logs, and what a
pass does to the log, to the surface and to the notification stream. -/

namespace Sys2Proof.Machine

/-! ## Guest writes (R220, R221) -/

/-- The descriptor of event code 3 (R105). -/
theorem decode_memw {e : Event} (he : e.desc = 0x80000003) : decode e = .memw e.addr e.byte0 e.bytes := by
  have hdesc : e.desc = mkDesc 2 0 0 3 := he
  rw [decode_event 3 e hdesc (by decide)]
  simp [decodeEventCode, hdesc]

theorem exec_memw (a : Nat) (b : Byte) (bs : List Byte) (s : State) :
    exec (.memw a b bs) s = .next { s with
      mem := (s.guestWrite a (b :: bs)).mem, dirty := (s.guestWrite a (b :: bs)).dirty } :=
  congrArg Host.Outcome.next (s.guestWrite_frame a (b :: bs))

/-- Settles O28, from what a guest write does to a read and to the log. -/
theorem guestWriteStoresAndLogsItsBytes : Obligations.GuestWriteStoresAndLogsItsBytes := by
  intro s e a b bs hwf
  exact ⟨decode_memw, _, _, exec_memw a b bs s,
    fun k hk => s.guestWrite_read a k (b :: bs) hwf hk,
    fun c hc => s.guestWrite_read_other a c (b :: bs) hc,
    fun c => s.mem_guestWrite_dirty a c (b :: bs)⟩

/-! ## A pass with the display off (R224, R231) -/

/-- The descriptor of event code 0 (R105). -/
theorem decode_redraw {e : Event} (he : e.desc = 0x80000000) : decode e = .redraw := by
  have hdesc : e.desc = mkDesc 2 0 0 0 := he
  rw [decode_event 0 e hdesc (by decide)]
  simp [decodeEventCode, hdesc]

theorem execRedraw_off {s : State} (h : s.act = none) : exec .redraw s = .next s := by
  change execRedraw s = _
  unfold execRedraw
  rw [h]

/-- Settles O29. -/
theorem redrawWithDisplayOffDoesNothing : Obligations.RedrawWithDisplayOffDoesNothing :=
  fun _ _ => ⟨decode_redraw, execRedraw_off⟩

/-! ## What a pass takes and clears, and which rows it draws (R222 to R225) -/

theorem eq_redrawPass_of_exec {s t : State} {m : ActiveMode} (hon : s.act = some m)
    (h : exec .redraw s = .next t) : t = redrawPass m s :=
  Host.Outcome.next.inj (h.symm.trans (execRedraw_on hon))

/-- Settles O30, from the frame of a pass and what a query clears. -/
theorem redrawTakesSnapshotAndClearsFlag : Obligations.RedrawTakesSnapshotAndClearsFlag := by
  intro s m hon
  exact ⟨(redrawPass m s).surf, (redrawPass m s).notes, (s.clearDirtyIn m.base.toNat m.frameEnd).dirty,
    (execRedraw_on hon).trans (congrArg Host.Outcome.next (redrawPass_frame m s)),
    s.mem_clearDirtyIn m.base.toNat m.frameEnd⟩

/-- Settles O31, by what a pass does to a dirty and to a clean row. -/
theorem redrawDrawsExactlyTheDirtyRows : Obligations.RedrawDrawsExactlyTheDirtyRows := by
  intro s t m x y hon hl hx hy h
  rw [eq_redrawPass_of_exec hon h]
  exact ⟨redrawPass_pixel_dirty hl hx hy, fun hclean hw hh => redrawPass_pixel_clean hy hw hh hclean⟩

/-! ## Maximal runs of dirty rows (R226, R229, R230) -/

section
variable {D : Nat → Prop} {lo hi : Nat} {r : Nat × Nat} {runs : List (Nat × Nat)}

/-- The rows `[r.1, r.2)` below `hi` are a run of rows with `D` that cannot be extended either way. -/
structure MaximalRun (D : Nat → Prop) (hi : Nat) (r : Nat × Nat) : Prop where
  nonempty : r.1 < r.2
  le_end : r.2 ≤ hi
  dirty : ∀ y, r.1 ≤ y → y < r.2 → D y
  clean_before : ∀ y, y + 1 = r.1 → ¬ D y
  clean_after : r.2 < hi → ¬ D r.2

/-- The list `runs` holds the maximal runs of the rows `[lo, hi)` in rising order. -/
structure ListsRuns (D : Nat → Prop) (lo hi : Nat) (runs : List (Nat × Nat)) : Prop where
  maximal : ∀ r ∈ runs, MaximalRun D hi r
  lo_le : ∀ r ∈ runs, lo ≤ r.1
  cover : ∀ y, lo ≤ y → y < hi → D y → ∃ r ∈ runs, r.1 ≤ y ∧ y < r.2
  rising : runs.Pairwise fun p q => p.2 < q.1

theorem listsRuns_nil (h : hi ≤ lo) : ListsRuns D lo hi [] where
  maximal := by simp
  lo_le := by simp
  cover := fun _ hlo hhi => absurd hhi (by omega)
  rising := .nil

/-- The row a maximal run ends at is clean, so the next run starts past it. -/
theorem ListsRuns.cons (hr : MaximalRun D hi r) (h : ListsRuns D (r.2 + 1) hi runs) :
    ListsRuns D r.1 hi (r :: runs) where
  maximal := List.forall_mem_cons.2 ⟨hr, h.maximal⟩
  lo_le := List.forall_mem_cons.2 ⟨le_rfl, fun q hq => by
    have hnext := h.lo_le q hq
    have hfirst := hr.nonempty
    omega⟩
  cover := by
    intro y hlo hhi hd
    obtain hin | rfl | hpast := lt_trichotomy y r.2
    · exact ⟨r, List.mem_cons_self, hlo, hin⟩
    · exact absurd hd (hr.clean_after hhi)
    · obtain ⟨q, hq, hin⟩ := h.cover y hpast hhi hd
      exact ⟨q, List.mem_cons_of_mem r hq, hin⟩
  rising := List.pairwise_cons.2 ⟨h.lo_le, h.rising⟩

/-- A clean row in front adds no run. -/
theorem ListsRuns.of_clean (h : ListsRuns D (lo + 1) hi runs) (hclean : ¬ D lo) : ListsRuns D lo hi runs where
  maximal := h.maximal
  lo_le := fun q hq => (Nat.le_succ lo).trans (h.lo_le q hq)
  cover := fun y hlo hhi hd =>
    h.cover y (Nat.lt_of_le_of_ne hlo fun heq => hclean (heq ▸ hd)) hhi hd
  rising := h.rising

/-- What the loop knows at row `y`: the rows since the open run's start are dirty, the row before it is clean. With
no run open, that start is `y` itself. -/
structure OpenRun (D : Nat → Prop) (y : Nat) (run : Option Nat) : Prop where
  started : ∀ k, run = some k → k < y
  dirty : ∀ z, run.getD y ≤ z → z < y → D z
  clean_before : ∀ z, z + 1 = run.getD y → ¬ D z

theorem openRun_none {y : Nat} (h : ∀ z, z + 1 = y → ¬ D z) : OpenRun D y none where
  started := fun _ hk => nomatch hk
  dirty := fun _ hlo hhi => absurd hhi (Nat.not_lt.2 hlo)
  clean_before := h

/-- A dirty row joins the open run, or opens one. -/
theorem OpenRun.extend {y : Nat} {run : Option Nat} (h : OpenRun D y run) (hd : D y) :
    OpenRun D (y + 1) (some (run.getD y)) where
  started := by
    rintro _ ⟨rfl⟩
    cases run with
    | none => exact Nat.lt_succ_self y
    | some k => exact (h.started k rfl).trans (Nat.lt_succ_self y)
  dirty := by
    intro z hlo hhi
    obtain hz | rfl := Nat.lt_succ_iff_lt_or_eq.1 hhi
    · exact h.dirty z hlo hz
    · exact hd
  clean_before := h.clean_before

/-- The open run is maximal where it meets a clean row or the end of the frame. -/
theorem OpenRun.maximalRun {k y : Nat} (h : OpenRun D y (some k)) (hy : y ≤ hi) (hclean : y < hi → ¬ D y) :
    MaximalRun D hi (k, y) where
  nonempty := h.started k rfl
  le_end := hy
  dirty := h.dirty
  clean_before := h.clean_before
  clean_after := hclean

/-- The loop from row `y` on reports the maximal runs from the open run's start on (R223, R226). -/
theorem listsRuns_dirtyRuns {dirty : Nat → Bool} (hD : ∀ z, z < hi → (dirty z = true ↔ D z)) (n y : Nat)
    (run : Option Nat) (hend : y + n = hi) (hopen : OpenRun D y run) :
    ListsRuns D (run.getD y) hi (dirtyRuns dirty n y run) := by
  induction n generalizing y run with
  | zero =>
    cases run with
    | none => exact listsRuns_nil hend.ge
    | some k => exact .cons (hopen.maximalRun (by omega) (by omega)) (listsRuns_nil (Nat.le_succ_of_le hend.ge))
  | succ n ih =>
    have hrow : dirty y = true ↔ D y := hD y (by omega)
    unfold dirtyRuns
    split_ifs with hd
    · exact ih (y + 1) (some (run.getD y)) (by omega) (hopen.extend (hrow.1 hd))
    · have hclean : ¬ D y := mt hrow.2 hd
      have hrest : ListsRuns D (y + 1) hi (dirtyRuns dirty n (y + 1) none) :=
        ih (y + 1) none (by omega) (openRun_none fun _ hz => Nat.succ.inj hz ▸ hclean)
      cases run with
      | none => exact hrest.of_clean hclean
      | some k => exact .cons (hopen.maximalRun (by omega) fun _ => hclean) hrest

end

/-- A pass sends a resize exactly if the size differs (R228). -/
theorem resizeToMode_notes (m : ActiveMode) (s : State) :
    (resizeToMode m s).notes = s.notes ++
      if s.surfW = m.width ∧ s.surfH = m.height then [] else [Notification.resize m.width m.height] := by
  unfold resizeToMode
  by_cases h : s.surfW = m.width ∧ s.surfH = m.height
  · rw [if_neg (by tauto), if_pos h, List.append_nil]
  · rw [if_pos (by tauto), if_neg h]
    rfl

/-- The runs of dirty rows that a pass from `s` reports (R223, R226). -/
def passRuns (m : ActiveMode) (s : State) : List (Nat × Nat) :=
  dirtyRuns (rowDirty m s.fullRedraw (s.dirtyIn m.base.toNat m.frameEnd)) m.height 0 none

/-- What a pass sends: a resize if one is due, then an update for each of its runs (R228, R229). -/
theorem redrawPass_notes (m : ActiveMode) (s : State) :
    (redrawPass m s).notes = s.notes ++
      (if s.surfW = m.width ∧ s.surfH = m.height then [] else [Notification.resize m.width m.height]) ++
      (passRuns m s).map fun r => Notification.update 0 r.1 m.width (r.2 - r.1) := by
  rw [redrawPass_eq, ← resizeToMode_notes]
  exact redrawRows_notes m _ _ _ _ _ _

theorem listsRuns_passRuns (m : ActiveMode) (s : State) : ListsRuns (RowDirty s m) 0 m.height (passRuns m s) :=
  listsRuns_dirtyRuns (rowDirty_snapshot m s) m.height 0 none (Nat.zero_add _) (openRun_none fun _ hz => nomatch hz)

/-- Settles O32: the runs of the scanline loop are the maximal ones, and the stream is made of them. -/
theorem redrawCoalescesMaximalRuns : Obligations.RedrawCoalescesMaximalRuns := by
  intro s t m hon h
  have hruns := listsRuns_passRuns m s
  rw [eq_redrawPass_of_exec hon h]
  refine ⟨passRuns m s, redrawPass_notes m s, fun r hr => ?_, fun y => hruns.cover y (Nat.zero_le y), hruns.rising⟩
  obtain ⟨hne, hle, hdirty, hbefore, hafter⟩ := hruns.maximal r hr
  exact ⟨hne, hle, hdirty, hbefore, hafter⟩

/-! ## A second pass (R227) -/

/-- What one effect of each instruction of a list keeps, the run of the list keeps. -/
theorem execAll_keeps {P : State → Prop} {is : List Instr} {s t : State}
    (hkeep : ∀ i ∈ is, ∀ u v, Effect i u v → P u → P v) (h : execAll is s = .next t) (hs : P s) : P t := by
  induction is generalizing s with
  | nil => cases h; exact hs
  | cons i is ih =>
    obtain ⟨hfirst, hrest⟩ := List.forall_mem_cons.1 hkeep
    unfold execAll at h
    split at h
    next u hu => exact ih hrest h (hfirst s u (effect_of_exec hu) hs)
    next => cases h
    next => cases h

/-- A pass has nothing to do for mode `m`: the display is off or in `m`, no full redraw is due, the surface has the
size, and no byte of the frame is logged. -/
structure NothingToRedraw (m : ActiveMode) (s : State) : Prop where
  latch : s.act = none ∨ s.act = some m
  full : s.fullRedraw = false
  width : s.surfW = m.width
  height : s.surfH = m.height
  log : ∀ c ∈ s.dirty, ¬(m.base.toNat ≤ c ∧ c < m.frameEnd)

section
variable {m : ActiveMode} {s t : State} {i : Instr}

theorem nothingToRedraw_redrawPass (hon : s.act = some m) : NothingToRedraw m (redrawPass m s) := by
  rw [redrawPass_frame]
  exact ⟨.inr hon, rfl, rfl, rfl, fun c hc => ((s.mem_clearDirtyIn _ _ c).1 hc).2⟩

theorem leavesFrame_memw {a : Nat} {b : Byte} {bs : List Byte} :
    leavesFrame m (.memw a b bs) = true ↔ a + bs.length < m.base.toNat ∨ m.frameEnd ≤ a := by
  simp [leavesFrame]

/-- A guest write past the frame logs no byte of it (R220, R225). -/
theorem guestWrite_log_of_leavesFrame {a : Nat} {b : Byte} {bs : List Byte}
    (hout : leavesFrame m (.memw a b bs) = true) (hlog : ∀ c ∈ s.dirty, ¬(m.base.toNat ≤ c ∧ c < m.frameEnd)) :
    ∀ c ∈ (s.guestWrite a (b :: bs)).dirty, ¬(m.base.toNat ≤ c ∧ c < m.frameEnd) := by
  intro c hc
  obtain hold | hnew := (s.mem_guestWrite_dirty a c (b :: bs)).1 hc
  · exact hlog c hold
  · have hpast := leavesFrame_memw.1 hout
    rw [List.length_cons] at hnew
    omega

/-- Only a `VADDR` write and a guest write into the frame give the next pass something to do. -/
theorem Effect.nothingToRedraw (h : Effect i s t) (hi : leavesFrame m i = true) (hs : NothingToRedraw m s) :
    NothingToRedraw m t := by
  obtain ⟨hact, hfull, hw, hh, hlog⟩ := hs
  cases h with
  | vaddrOff | vaddrAccepted | vaddrRejected => cases hi
  | guestWrite => exact ⟨hact, hfull, hw, hh, guestWrite_log_of_leavesFrame hi hlog⟩
  | redrawOn hon =>
    obtain rfl : m = _ := Option.some.inj ((hact.resolve_left (by simp [hon])).symm.trans hon)
    rw [← redrawPass_frame]
    exact nothingToRedraw_redrawPass hon
  | reset => exact ⟨.inl rfl, rfl, hw, hh, hlog⟩
  | _ => exact ⟨hact, hfull, hw, hh, hlog⟩

theorem NothingToRedraw.not_rowDirty (hs : NothingToRedraw m s) {y : Nat} (hy : y < m.height) :
    ¬ RowDirty s m y := by
  rw [← rowDirty_snapshot m s y hy, rowDirty_iff]
  rintro (hdue | ⟨c, hc, -⟩)
  · simp [hs.full] at hdue
  · obtain ⟨hlogged, hin⟩ := (s.mem_dirtyIn _ _ c).1 hc
    exact hs.log c hlogged hin

/-- Then a pass resizes nothing, clears nothing from the log and draws no row. -/
theorem NothingToRedraw.redrawPass_eq_self (hs : NothingToRedraw m s) : redrawPass m s = s := by
  rw [redrawPass_eq, resizeToMode_same m s hs.width hs.height, State.clearDirtyIn_of_clean s _ _ hs.log,
    redrawRows_clean]
  · unfold State.clearFullRedraw
    rw [← hs.full]
  · intro y _ hy
    rw [Bool.eq_false_iff]
    exact mt (rowDirty_snapshot m s y (by omega)).1 (hs.not_rowDirty (by omega))

theorem NothingToRedraw.exec_redraw (hs : NothingToRedraw m s) : exec .redraw s = .next s := by
  obtain hoff | hon := hs.latch
  · exact execRedraw_off hoff
  · rw [execRedraw_on hon, hs.redrawPass_eq_self]

end

/-- Settles O33: a pass leaves nothing to redraw, and the instructions between keep it so. -/
theorem secondPassIsSilent : Obligations.SecondPassIsSilent := by
  intro s t u m between hon h hleaves hbetween
  have hpass : NothingToRedraw m t := by
    rw [eq_redrawPass_of_exec hon h]
    exact nothingToRedraw_redrawPass hon
  have hu : NothingToRedraw m u :=
    execAll_keeps (fun i hi _ _ heffect => heffect.nothingToRedraw (hleaves i hi)) hbetween hpass
  exact hu.exec_redraw

end Sys2Proof.Machine

/-! The VBL timer (spec/44_vbl_timer.md R260 to R267): when a firing and an advance are enabled, and what a run keeps of
the line, of the deadline and of its place on the grid of the arming write. -/

namespace Sys2Proof.Machine

/-! ## What an instruction leaves of the timer -/

section
variable {i j : Instr} {is : List Instr} {s t u : State} {d : Nat}

/-- Only a firing, a period write and a reset touch the period and the deadline (R32, R44, R133, R260, R320). -/
theorem Effect.timer_kept (h : Effect i s t) (hkeep : keepsTimerArmed i = true) (hfire : i ≠ .fire) :
    t.vblPeriod = s.vblPeriod ∧ t.deadline = s.deadline := by
  cases h with
  | fire => exact absurd rfl hfire
  | periodArms | periodDisarms | reset => cases hkeep
  | _ => exact ⟨rfl, rfl⟩

/-- Whatever moves the time, it stays at or before the deadline that was armed (R263). -/
theorem Effect.now_le_deadline (h : Effect i s t) (hd : s.deadline = some d) (hnow : s.now ≤ d) : t.now ≤ d := by
  cases h with
  | advance _ hpast => exact hpast d hd
  | _ => exact hnow

/-- Only an arming write takes an Idle timer out of Idle (R261, R267). -/
theorem Effect.idle_kept (h : Effect i s t) (hwrite : ∀ q, i = .wrVblPeriod q → q.toNat ≤ Config.vblMinNs.val)
    (hidle : s.deadline = none) : t.deadline = none := by
  cases h with
  | periodArms hp => exact absurd (hwrite _ rfl) (Nat.not_le.2 hp)
  | fire hd => exact nomatch hidle.symm.trans hd
  | periodDisarms | reset => rfl
  | _ => exact hidle

/-- Only an acknowledge and a reset lower the line (R262). -/
theorem Effect.line_kept (h : Effect i s t) (hkeep : keepsLine i = true) (hline : s.irq = true) : t.irq = true := by
  obtain hsame | ⟨hhigh, -⟩ | ⟨-, rfl | ⟨v, rfl⟩⟩ := h.irq_cases
  · exact hsame.trans hline
  · exact hhigh
  · cases hkeep
  · cases hkeep

/-- A firing that completes happened at its deadline, and this is the state it left (R260). -/
theorem exec_fire_next (h : exec .fire s = .next t) : s.deadline = some s.now ∧
    t = { s with irq := true, deadline := some (s.now + s.vblPeriod.toNat) } :=
  execFire_next h

theorem execAll_cons_next (h : execAll (i :: is) s = .next t) :
    ∃ u, exec i s = .next u ∧ execAll is u = .next t := by
  unfold execAll at h
  split at h
  next u hu => exact ⟨u, hu, h⟩
  next => cases h
  next => cases h

theorem execAll_pair (hi : exec i s = .next u) (hj : exec j u = .next t) : execAll [i, j] s = .next t := by
  simp only [execAll, hi, hj]

theorem countFire_cons_of_ne (hi : i ≠ .fire) : countFire (i :: is) = countFire is := by
  rw [countFire]
  exact hi

end

/-! ## The deadline grid of an armed timer (R264) -/

/-- The timer that was armed at `t0` with period `p` has fired `k` times: its deadline is the next point of the grid
of the arming write. -/
structure OnGrid (p : Word) (t0 k : Nat) (s : State) : Prop where
  period : s.vblPeriod = p
  deadline : s.deadline = some (t0 + (k + 1) * p.toNat)

section
variable {p : Word} {t0 k : Nat} {i : Instr} {s t : State}

theorem onGrid_of_arming_write (hp : Config.vblMinNs.val < p.toNat) (h : exec (.wrVblPeriod p) s = .next t) :
    OnGrid p s.now 0 t := by
  obtain rfl := Host.Outcome.next.inj ((execWrVblPeriod_of_gt hp).symm.trans h)
  exact ⟨rfl, by simp⟩

/-- A firing happens at the grid's next point and moves the deadline on by one: no drift adds up (R260, R264). -/
theorem OnGrid.fire (hs : OnGrid p t0 k s) (h : exec .fire s = .next t) :
    s.now = t0 + (k + 1) * p.toNat ∧ OnGrid p t0 (k + 1) t := by
  obtain ⟨hd, rfl⟩ := exec_fire_next h
  have hnow : s.now = t0 + (k + 1) * p.toNat := Option.some.inj (hd.symm.trans hs.deadline)
  refine ⟨hnow, hs.period, congrArg some ?_⟩
  calc s.now + s.vblPeriod.toNat
      = t0 + (k + 1) * p.toNat + p.toNat := by rw [hnow, hs.period]
    _ = t0 + (k + 1 + 1) * p.toNat := by ring

theorem OnGrid.of_ne_fire (hs : OnGrid p t0 k s) (hkeep : keepsTimerArmed i = true) (hfire : i ≠ .fire)
    (h : exec i s = .next t) : OnGrid p t0 k t := by
  obtain ⟨hperiod, hdeadline⟩ := (effect_of_exec h).timer_kept hkeep hfire
  exact ⟨hperiod.trans hs.period, hdeadline.trans hs.deadline⟩

/-- The grid does not speak of the pending events. -/
theorem OnGrid.setPending (hs : OnGrid p t0 k s) (es : List Event) : OnGrid p t0 k (s.setPending es) :=
  ⟨hs.period, hs.deadline⟩

/-- A run moves the deadline on by one point of the grid for each of its firings. -/
theorem OnGrid.of_execAll {is : List Instr} (hs : OnGrid p t0 k s) (hkeep : ∀ i ∈ is, keepsTimerArmed i = true)
    (h : execAll is s = .next t) : OnGrid p t0 (k + countFire is) t := by
  induction is generalizing k s with
  | nil => cases h; exact hs
  | cons i is ih =>
    obtain ⟨hfirst, hrest⟩ := List.forall_mem_cons.1 hkeep
    obtain ⟨u, hu, hrun⟩ := execAll_cons_next h
    by_cases hfire : i = .fire
    · subst hfire
      obtain ⟨-, hgrid⟩ := hs.fire hu
      have hcount : k + countFire (.fire :: is) = k + 1 + countFire is := by
        rw [countFire]
        omega
      rw [hcount]
      exact ih hgrid hrest hrun
    · rw [countFire_cons_of_ne hfire]
      exact ih (hs.of_ne_fire hfirst hfire hu) hrest hrun

end

/-- Settles O56: a step with no event pending changes nothing, and one that runs an event moves the deadline to the
grid's next point exactly if the event is a firing. -/
theorem stepKeepsTheDeadlineOnItsGrid : Obligations.StepKeepsTheDeadlineOnItsGrid := by
  intro s t p t0 k hperiod hdeadline hkeep h
  have hs : OnGrid p t0 k s := ⟨hperiod, hdeadline⟩
  cases hnext : s.pending with
  | nil =>
    rw [stepRunsTheDecodedEvent.2 s hnext] at h
    cases h
    exact ⟨hperiod, .inr ⟨fun _ _ hcons => (nomatch hcons), hdeadline⟩⟩
  | cons e rest =>
    rw [step_of_pending hnext] at h
    by_cases hfire : decode e = .fire
    · rw [hfire] at h
      obtain ⟨hnow, hgrid⟩ := (hs.setPending rest).fire h
      exact ⟨hgrid.period, .inl ⟨e, rest, rfl, hfire, hnow, hgrid.deadline⟩⟩
    · have hgrid := (hs.setPending rest).of_ne_fire (hkeep e rest hnext) hfire h
      refine ⟨hgrid.period, .inr ⟨?_, hgrid.deadline⟩⟩
      rintro e' rest' ⟨rfl, rfl⟩
      exact hfire

/-- Settles O38: the arming write starts the grid, the run between moves along it, and the firing is its next point. -/
theorem firingsAreDriftFree : Obligations.FiringsAreDriftFree := by
  intro s s1 v w p between hp harm hkeep hrun hfire
  have hv : OnGrid p s.now (0 + countFire between) v := (onGrid_of_arming_write hp harm).of_execAll hkeep hrun
  rw [Nat.zero_add] at hv
  obtain ⟨hnow, hw⟩ := hv.fire hfire
  exact ⟨hnow, hw.deadline⟩

/-! ## What a run keeps of the line and of the deadline (R262, R263, R267) -/

/-- Settles O39: every instruction of the list leaves a raised line raised. -/
theorem lineStaysRaisedUntilAcknowledged : Obligations.LineStaysRaisedUntilAcknowledged :=
  fun _ _ _ hline hkeep hrun =>
    execAll_keeps (P := fun u => u.irq = true) (fun i hi _ _ heffect => heffect.line_kept (hkeep i hi)) hrun hline

/-- Settles O41: the disarming write leaves the timer Idle, the run keeps it Idle, and an Idle timer does not fire. -/
theorem disarmCancelsEveryFiring : Obligations.DisarmCancelsEveryFiring := by
  intro s s1 t p is hp hdisarm hwrites hrun
  have hs1 : s1.deadline = none := by
    obtain rfl := Host.Outcome.next.inj ((execWrVblPeriod_of_le hp).symm.trans hdisarm)
    rfl
  have ht : t.deadline = none :=
    execAll_keeps (P := fun u => u.deadline = none)
      (fun i hi _ _ heffect => heffect.idle_kept (hwrites i hi)) hrun hs1
  exact exec_fire_of_ne_deadline (by simp [ht])

/-- Settles O43: while the deadline stays as it is, no instruction takes the time past it. -/
theorem timeCannotPassADeadlineUnfired : Obligations.TimeCannotPassADeadlineUnfired := by
  intro s t d is hd hnow hkeep hrun
  refine execAll_keeps (P := fun u => u.now ≤ d ∧ u.deadline = some d) ?_ hrun ⟨hnow, hd⟩
  rintro i hi u v heffect ⟨hle, hdue⟩
  obtain ⟨hkeeps, hfire⟩ := hkeep i hi
  exact ⟨heffect.now_le_deadline hdue hle, (heffect.timer_kept hkeeps hfire).2.trans hdue⟩

/-! ## A firing, an advance, and their order with a write (R260, R263, R266) -/

/-- The descriptor of event code 1 (R105). -/
theorem decode_fire {e : Event} (he : e.desc = 0x80000001) : decode e = .fire := by
  have hdesc : e.desc = mkDesc 2 0 0 1 := he
  rw [decode_event 1 e hdesc (by decide)]
  simp [decodeEventCode, hdesc]

/-- Settles O36; the bound on the new deadline is the invariant's bound on the period of an armed timer. -/
theorem fireRaisesTheLineAtTheDeadline : Obligations.FireRaisesTheLineAtTheDeadline := by
  refine fun s e => ⟨decode_fire, exec_fire_of_deadline, exec_fire_of_ne_deadline, fun hinv hd => ?_⟩
  have hperiod : Config.vblMinNs.val < s.vblPeriod.toNat := hinv.period_of_armed hd
  exact ⟨_, _, exec_fire_of_deadline hd, rfl, by omega⟩

/-- Settles O37, from the two outcomes of an advance. -/
theorem advanceMovesTimeUpToTheDeadline : Obligations.AdvanceMovesTimeUpToTheDeadline := by
  refine fun s e t => ⟨decode_advance, exec_advance_of_enabled, fun hlate => exec_advance_of_not_enabled ?_⟩
  rintro ⟨hnow, hdue⟩
  obtain hback | ⟨d, hd, hpast⟩ := hlate
  · exact Nat.not_le.2 hback hnow
  · exact Nat.not_le.2 hpast (hdue d hd)

/-- Settles O44, a row of the table at a time. A period write before the firing moves the deadline off `now`, because
an arming period is at least 1, or takes it away. -/
theorem orderAtADeadlineShows : Obligations.OrderAtADeadlineShows := by
  intro s v p q hd hp hq
  have hfire := exec_fire_of_deadline hd
  refine ⟨?fireAck, ?ackFire, ?fireArm, ?armFire, ?fireDisarm, ?disarmFire⟩
  case fireAck => exact ⟨_, execAll_pair hfire rfl, rfl⟩
  case ackFire => exact ⟨_, execAll_pair rfl (exec_fire_of_deadline hd), rfl⟩
  case fireArm => exact ⟨_, execAll_pair hfire (execWrVblPeriod_of_gt hp), rfl, rfl⟩
  case armFire =>
    refine ⟨_, execWrVblPeriod_of_gt hp, rfl, rfl, exec_fire_of_ne_deadline fun hnow => ?_⟩
    have hsame : s.now + p.toNat = s.now := Option.some.inj hnow
    omega
  case fireDisarm => exact ⟨_, execAll_pair hfire (execWrVblPeriod_of_le hq), rfl, rfl⟩
  case disarmFire =>
    exact ⟨_, execWrVblPeriod_of_le hq, rfl, rfl, exec_fire_of_ne_deadline fun hnow => nomatch hnow⟩

end Sys2Proof.Machine

/-! Device reset: where its descriptor decodes to, and the state it leaves (spec/70_reset_and_hazards.md R320). -/

namespace Sys2Proof.Machine

/-- The descriptor of event code 2 (R105). -/
theorem decode_reset {e : Event} (he : e.desc = 0x80000002) : decode e = .reset := by
  have hdesc : e.desc = mkDesc 2 0 0 2 := he
  rw [decode_event 2 e hdesc (by decide)]
  simp [decodeEventCode, hdesc]

theorem clearRegisters_frame (s : State) :
    clearRegisters s = { s with vblPeriod := 0, depth := 0, width := 0, height := 0, vaddr := 0 } := rfl

/-- Device reset writes nothing but the five registers, the latch, the palette, the deadline, the line and the
flag. -/
theorem deviceReset_frame (s : State) :
    deviceReset s = { s with
      vblPeriod := 0, depth := 0, width := 0, height := 0, vaddr := 0, act := none
      pal := Config.defaultPalette Config.resetPaletteDepth
      deadline := none, irq := false, fullRedraw := false } := by
  rw [deviceReset, clearRegisters_frame]
  rfl

theorem exec_reset (s : State) : exec .reset s = .next (deviceReset s) := rfl

/-- Settles O46, from the descriptor's event code and the fields that device reset writes. -/
theorem deviceResetReappliesTheOffState : Obligations.DeviceResetReappliesTheOffState :=
  fun s _ => ⟨decode_reset, (exec_reset s).trans (congrArg _ (deviceReset_frame s))⟩

end Sys2Proof.Machine
